-- ==== Sys2Proof/Word.lean ====
section
/-! DEFINITION. The words that the FTD's ports carry. -/

namespace Sys2Proof

/-- One operation word, the input port `op` (R39, R80): `{agt[1:0], fn[1:0]}`. -/
abbrev OpWord := BitVec 4

/-- One byte of the non-volatile space, the input port `nv_rdata` (R39). -/
abbrev Byte := BitVec 8

/-- The output port `nv_addr`: a byte offset of a non-volatile read (R40). -/
abbrev NvAddr := BitVec 3

end Sys2Proof
end

