-- ==== Sys2Proof/Syntax.lean ====
section
/-! DEFINITION. The operations of the FTD (R82), the agents that present them (R81), and the lines of
a program text (R86, R87). -/

namespace Sys2Proof

/-- The five operations of R82, one constructor per row of the opcode table. None has an operand (R83). -/
inductive Instr where
  /-- `IDLE`, agent SYS (R160). -/
  | idle
  /-- `RESET`, agent SYS (R161). -/
  | reset
  /-- `TCLK`, agent TMR (R100). -/
  | tclk
  /-- `CONSUME`, agent MAIN (R132). -/
  | consume
  /-- `SLEEP`, agent MAIN (R136). -/
  | sleep
deriving DecidableEq, Repr

/-- The agent classes of R81 that present operations. -/
inductive Agent where
  /-- The reset controller. -/
  | sys
  /-- The timer clock, the source's interrupt context. -/
  | tmr
  /-- The source's main context. -/
  | main
deriving DecidableEq, Repr

/-- What a line of a program text names: an operation (R86) or a pseudo-operation (R87). -/
inductive Item where
  | op (i : Instr)
  /-- `TICK`: the TCLKs up to and including the next MATCH. -/
  | tick
  /-- `CTICK`: CONSUME, then SLEEP if `z = 1`. -/
  | ctick
deriving DecidableEq, Repr

/-- A line of a program text: `<mnemonic> * <count>` (R86). -/
structure Line where
  item  : Item
  count : Nat
deriving DecidableEq, Repr

end Sys2Proof
end

