-- ==== Sys2Proof/WellFormed.lean ====
section
/-! DEFINITION. What the spec requires of an instruction, a word and a program line as syntax. -/

namespace Sys2Proof

/-- Every operation is well formed: none carries an operand that could be out of range (R83). -/
def Instr.wellFormed : Instr → Bool
  | .idle    => true
  | .reset   => true
  | .tclk    => true
  | .consume => true
  | .sleep   => true

/-- The reserved words of R84. -/
def OpWord.reserved (w : OpWord) : Bool :=
  w ∈ ([0x2, 0x3, 0x5, 0x6, 0x7, 0xA, 0xB, 0xC, 0xD, 0xE, 0xF] : List OpWord)

/-- A line's count is "at least 1" (R86). -/
def Line.wellFormed (l : Line) : Bool :=
  decide (1 ≤ l.count)

end Sys2Proof
end

