-- ==== Sys2Proof/Decode.lean ====
section
/-! DEFINITION. The decoder of R82 and R84, the encoder of R80 to R82, and the host's table word. -/

namespace Sys2Proof

/-- Why a word does not decode. -/
inductive DecodeReject where
  /-- One of the eleven reserved words (R84). Safe: nothing can be proved of a run that presents one. -/
  | reserved (w : OpWord)
deriving DecidableEq, Repr

/-- R82: match all four bits against 0x0, 0x1, 0x4, 0x8, 0x9; anything else is reserved. -/
def decode (w : OpWord) : Except DecodeReject Instr :=
  if w = 0x0#4 then .ok .idle
  else if w = 0x1#4 then .ok .reset
  else if w = 0x4#4 then .ok .tclk
  else if w = 0x8#4 then .ok .consume
  else if w = 0x9#4 then .ok .sleep
  else .error (.reserved w)

/-- The agent of an operation (R82). -/
def Instr.agent : Instr → Agent
  | .idle    => .sys
  | .reset   => .sys
  | .tclk    => .tmr
  | .consume => .main
  | .sleep   => .main

/-- The field `agt` of an agent (R81). -/
def Agent.field : Agent → BitVec 2
  | .sys  => 0b00#2
  | .tmr  => 0b01#2
  | .main => 0b10#2

/-- The field `fn` of an operation within its class (R82). -/
def Instr.fn : Instr → BitVec 2
  | .idle    => 0#2
  | .reset   => 1#2
  | .tclk    => 0#2
  | .consume => 0#2
  | .sleep   => 1#2

/-- The word of an operation: `agt` in bits 3..2, `fn` in bits 1..0 (R80). -/
def encodeWord (i : Instr) : OpWord :=
  i.agent.field ++ i.fn

/-- The words of an operation; there is one (R80). -/
def encode (i : Instr) : List OpWord :=
  [encodeWord i]

/-- The field `agt` of a word (R80). -/
def OpWord.agt (w : OpWord) : BitVec 2 := w.extractLsb' 2 2

/-- The instruction that the decoder reads from the opcode table's word, bit 0 the least significant
(R9, R80). A word has four bits, so a bit set above them within `nbits` is no operation word (log 11). -/
def decodeTableWord (nbits w : Nat) : Option Instr :=
  let bits := w % 2 ^ nbits
  if bits < 16 then
    match decode (BitVec.ofNat 4 bits) with
    | .ok i    => some i
    | .error _ => none
  else none

end Sys2Proof
end

