-- ==== Sys2Proof/Config.lean ====
section
/-! DEFINITION. The build-time configuration of an FTD (R5, R6): the launch parameters that are
constant for a whole run. What is computed from them stands in Machine/Params.lean. -/

namespace Sys2Proof

/-- The oscillator profile, exactly one of two (R6, R8). -/
inductive Profile where
  /-- `FAST4M`, the fast crystal, whose triple the spec gives. -/
  | fast4m
  /-- `LOWF`, the direct low-frequency crystal, whose triple is open. -/
  | lowf
deriving DecidableEq, Repr

/-- The parameters of R6 that are a model argument, an open value, or a width with a default.
The defaults of the widths are the spec's (D5). Log 2 says what `State.reset` takes for the rest. -/
structure Config where
  /-- `PROFILE`. -/
  profile : Profile
  /-- `LF_CYCLES`, read only under `LOWF` (R8). -/
  lfCycles : Nat
  /-- `LF_LONG_CYCLES`, read only under `LOWF` (R8). -/
  lfLongCycles : Nat
  /-- `LF_BASE`, read only under `LOWF` (R8). -/
  lfBase : Nat
  /-- `TRIM_EN`. -/
  trimEn : Bool
  /-- `DEBUG_LOCKUP_EN`. -/
  debugLockupEn : Bool
  /-- `CMP_W`, the width of `timer_count`, `compare_value` and `nominal_compare`. -/
  cmpW : Nat := 8
  /-- `POS_W`, the width of `cycle_position`. -/
  posW : Nat := 8
  /-- `BACKLOG_W`, the width of `backlog` and `snap`. -/
  backlogW : Nat := 8
  /-- `ACC_W`, the width of `acc`. -/
  accW : Nat := 32
  /-- `PCNT_W`, the width of `persist_cnt`. -/
  pcntW : Nat := 20
deriving DecidableEq, Repr

end Sys2Proof
end

