-- ==== Sys2Proof/Machine/Params.lean ====
section
/-! DEFINITION. The parameters of R6 as values, and the legality of a configuration (R7). -/

namespace Sys2Proof

/-- `TRIM_QUANTUM`, the correction quantum of the trim accumulator in timer clocks (R6). -/
def trimQuantum : Nat := 10000000

/-- `PERSIST_PERIOD`, the reload value of the seed-persistence countdown (R6). -/
def persistPeriod : Nat := 864000

/-- `TICK_HZ`, the nominal tick rate; informative, no rule reads it (R6). -/
def tickHz : Nat := 10

/-- `TRIM_W`, the width of `trim_offset`, which the slot's two bytes fix (R6). -/
def trimW : Nat := 16

/-- `CYCLES` of the profile (R6, R8). -/
def Config.cycles (c : Config) : Nat :=
  match c.profile with
  | .fast4m => 64
  | .lowf   => c.lfCycles

/-- `LONG_CYCLES` of the profile (R6, R8). -/
def Config.longCycles (c : Config) : Nat :=
  match c.profile with
  | .fast4m => 53
  | .lowf   => c.lfLongCycles

/-- `BASE` of the profile: the compare value of a short interval (R6, C1). -/
def Config.base (c : Config) : Nat :=
  match c.profile with
  | .fast4m => 47
  | .lowf   => c.lfBase

/-- The largest value of an unsigned register of `w` bits. -/
def maxOf (w : Nat) : Nat := 2 ^ w - 1

/-- `BACKLOG_MAX` (R6). -/
def Config.backlogMax (c : Config) : Nat := maxOf c.backlogW

/-- R7 (a): `1 <= LONG_CYCLES <= CYCLES <= 2^POS_W - 1`. -/
def Config.patternLegal (c : Config) : Bool :=
  decide (1 ≤ c.longCycles) && decide (c.longCycles ≤ c.cycles) && decide (c.cycles ≤ maxOf c.posW)

/-- R7 (b): `BASE + 1 <= 2^CMP_W - 1`. -/
def Config.baseLegal (c : Config) : Bool :=
  decide (c.base + 1 ≤ maxOf c.cmpW)

/-- U4, "values exceeding the register widths": `PERSIST_PERIOD` fits `persist_cnt`, and with trim
enabled the accumulator holds every value below `TRIM_QUANTUM` (log 8). -/
def Config.widthsLegal (c : Config) : Bool :=
  decide (persistPeriod ≤ maxOf c.pcntW) && (!c.trimEn || decide (trimQuantum - 1 ≤ maxOf c.accW))

/-- The legality of R7 that the configuration alone decides. -/
def Config.legal (c : Config) : Bool :=
  c.patternLegal && c.baseLegal && c.widthsLegal

/-- R7 (c), R113: the trim value that keeps both nominal compare values in the compare register. -/
def Config.trimFits (c : Config) (t : Int) : Bool :=
  decide (0 ≤ (c.base : Int) + t) && decide ((c.base : Int) + 1 + t ≤ (maxOf c.cmpW : Int))

/-- R7 (c) applies only when `TRIM_EN = 1`. -/
def Config.trimLegal (c : Config) (t : Int) : Bool :=
  !c.trimEn || c.trimFits t

/-- The compare value the pattern asks for at a position (R46 (c), R111). -/
def Config.nominalAt (c : Config) (pos : Nat) : Nat :=
  if pos < c.longCycles then c.base + 1 else c.base

/-- R109: the timer clocks of `CYCLES` consecutive intervals without trim,
`(BASE + 1) * (CYCLES - LONG_CYCLES) + (BASE + 2) * LONG_CYCLES`. -/
def Config.patternClocks (c : Config) : Nat :=
  (c.base + 1) * (c.cycles - c.longCycles) + (c.base + 2) * c.longCycles

end Sys2Proof
end

