-- ==== Sys2Proof/Machine/State.lean ====
section
/-! DEFINITION. The state of the FTD (R22), the launch parameters and outputs the model keeps beside
it, the reasons a step can stop, and the state after reset (R43). -/

namespace Sys2Proof.Machine

/-- The fourteen elements of R22, by name. -/
inductive Reg where
  | timerCount | compareValue | nominalCompare | cyclePosition | acc | trimOffset
  | backlog | owed | sleeping | snap | persistCnt
  | faultCause | halted | dbgOut
deriving DecidableEq, Repr

/-- The two causes of the one fault class (R190). -/
inductive FaultCause where
  /-- More consumes issued than ticks produced (R191). -/
  | backlogUnderflow
  /-- The tick that cannot be counted (R192). -/
  | backlogOverflow
deriving DecidableEq, Repr

/-- The non-volatile space (R60): (offset, byte) pairs, offsets strictly rising, no byte equal to the
one an unlisted offset reads as (log 3). -/
abbrev Memory := List Host.Cell

/-- What a step shows outside besides the level ports: the events of R41, whether the presented word
was blocked (R42), and the offsets driven on `nv_addr` in order (R40, R63). Log 6. -/
structure Outputs where
  tick       : Bool
  wake       : Bool
  persistReq : Bool
  blocked    : Bool
  nvAddr     : List NvAddr
deriving DecidableEq, Repr

/-- No event, nothing blocked, no address driven. -/
def Outputs.quiet : Outputs := ⟨false, false, false, false, []⟩

/-- The fourteen elements of R22 (integers, R9 and log 1), and the model's own fields: the launch
parameters `cfg`, `nv`, `words` (R45, R251; logs 2 to 4) and the boundary's `mainWaiting`, `out` (logs 5, 6). -/
@[ext]
structure State where
  /-- `timer_count` (R23). -/
  timerCount : Nat
  /-- `compare_value` (R24). -/
  compareValue : Nat
  /-- `nominal_compare` (R25). -/
  nominalCompare : Nat
  /-- `cycle_position` (R26). -/
  cyclePosition : Nat
  /-- `acc` (R27). -/
  acc : Nat
  /-- `trim_offset`, the one signed element (R28). -/
  trimOffset : Int
  /-- `backlog` (R29). -/
  backlog : Nat
  /-- `owed` (R30). -/
  owed : Bool
  /-- `sleeping` (R32). -/
  sleeping : Bool
  /-- `snap` (R33). -/
  snap : Nat
  /-- `persist_cnt` (R34). -/
  persistCnt : Nat
  /-- `fault_cause`, the fault latch; 3 is never written (R35). -/
  faultCause : BitVec 2
  /-- `halted` (R36). -/
  halted : Bool
  /-- `dbg_out` (R37). -/
  dbgOut : Bool
  /-- The configuration of the instance (R5). -/
  cfg : Config
  /-- The contents of the non-volatile space (R61). -/
  nv : Memory
  /-- The operation words still to be presented on the port `op`, in order (R88, R251). -/
  words : List OpWord
  /-- The MAIN operations that were blocked and not accepted since (R42, R131, R250). -/
  mainWaiting : List Instr
  /-- What the last step showed outside (R41). -/
  out : Outputs
deriving DecidableEq, Repr

/-- Why the machine stops with no next state. The spec's own faults are no such stop: fault entry is
a next state (R193, log 7). -/
inductive Fault where
  /-- Raised by `step` alone: no word is left to present, the end of a run (R250). Safe: the run is over. -/
  | endOfWords
  /-- Raised by `commit`: a write `name <- v` whose `v` is outside the register's range, which R9
  excludes and for which no rule gives an effect. Safe: no state follows (log 1). -/
  | registerRange (r : Reg)
deriving DecidableEq, Repr

/-- Why the model gives a run no meaning. -/
inductive Refusal where
  /-- Raised by `exec`'s arm of an instruction that has no meaning yet. Safe. -/
  | notModelled (mnemonic : String)
  /-- Raised by `step` on a reserved operation word: "A model must refuse" (R84). Safe. -/
  | reservedWord (w : OpWord)
  /-- Raised by `step` under a configuration that R7 or U4 makes illegal. Safe. -/
  | illegalConfiguration
  /-- Raised by RESET when the persisted trim is outside R113's range, and by `step` on any other
  operation of a machine that holds such a trim (R7 (c), R113, U3). Safe. -/
  | trimOutOfRange
deriving DecidableEq, Repr

/-- The outcome of a step of this machine. -/
abbrev Outcome := Host.Outcome State Fault Refusal

/-- The configuration of `State.reset`: `FAST4M`, `TRIM_EN = 0`, `DEBUG_LOCKUP_EN = 0`, default widths,
the convention of 95_test_vectors.md (DESIGN CHOICE, log 2). -/
def defaultConfig : Config :=
  { profile := .fast4m, lfCycles := 0, lfLongCycles := 0, lfBase := 0,
    trimEn := false, debugLockupEn := false }

/-- The state after RESET (R43) of the instance `defaultConfig`, with nothing listed in the
non-volatile space and no word presented (logs 2 to 4). -/
def State.reset : State :=
  { timerCount := 0, compareValue := 48, nominalCompare := 48, cyclePosition := 0,
    acc := 0, trimOffset := 0, backlog := 0, owed := false, sleeping := false,
    snap := 0, persistCnt := 864000, faultCause := 0#2, halted := false, dbgOut := false,
    cfg := defaultConfig, nv := [], words := [], mainWaiting := [], out := Outputs.quiet }

end Sys2Proof.Machine
end

