-- ==== Sys2Proof/Machine/Operands.lean ====
section
/-! DEFINITION. What an operation reads and writes: the elements of R22 as integers (R9, R10), and the
non-volatile space with its byte order (R61 to R65). No operation has an operand in its word (R83). -/

namespace Sys2Proof.Machine

/-- The width of each element (R22). -/
def Reg.width (c : Config) : Reg → Nat
  | .timerCount     => c.cmpW
  | .compareValue   => c.cmpW
  | .nominalCompare => c.cmpW
  | .cyclePosition  => c.posW
  | .acc            => c.accW
  | .trimOffset     => trimW
  | .backlog        => c.backlogW
  | .owed           => 1
  | .sleeping       => 1
  | .snap           => c.backlogW
  | .persistCnt     => c.pcntW
  | .faultCause     => 2
  | .halted         => 1
  | .dbgOut         => 1

/-- Every element is unsigned but `trim_offset` (R9). -/
def Reg.signed : Reg → Bool
  | .trimOffset => true
  | _           => false

/-- `v` is in the range of element `r`: the obligation of a write `name <- v` (R9). -/
def Reg.fits (c : Config) (r : Reg) (v : Int) : Bool :=
  if r.signed then
    decide (-(2 ^ (r.width c - 1) : Int) ≤ v) && decide (v ≤ 2 ^ (r.width c - 1) - 1)
  else
    decide (0 ≤ v) && decide (v ≤ 2 ^ (r.width c) - 1)

/-- The value of an element as an integer (R9). -/
def State.get (s : State) : Reg → Int
  | .timerCount     => s.timerCount
  | .compareValue   => s.compareValue
  | .nominalCompare => s.nominalCompare
  | .cyclePosition  => s.cyclePosition
  | .acc            => s.acc
  | .trimOffset     => s.trimOffset
  | .backlog        => s.backlog
  | .owed           => s.owed.toInt
  | .sleeping       => s.sleeping.toInt
  | .snap           => s.snap
  | .persistCnt     => s.persistCnt
  | .faultCause     => s.faultCause.toNat
  | .halted         => s.halted.toInt
  | .dbgOut         => s.dbgOut.toInt

/-- The state with one element set; `commit` alone decides whether the value may be written. -/
def State.set (s : State) (r : Reg) (v : Int) : State :=
  match r with
  | .timerCount     => { s with timerCount := v.toNat }
  | .compareValue   => { s with compareValue := v.toNat }
  | .nominalCompare => { s with nominalCompare := v.toNat }
  | .cyclePosition  => { s with cyclePosition := v.toNat }
  | .acc            => { s with acc := v.toNat }
  | .trimOffset     => { s with trimOffset := v }
  | .backlog        => { s with backlog := v.toNat }
  | .owed           => { s with owed := decide (v = 1) }
  | .sleeping       => { s with sleeping := decide (v = 1) }
  | .snap           => { s with snap := v.toNat }
  | .persistCnt     => { s with persistCnt := v.toNat }
  | .faultCause     => { s with faultCause := BitVec.ofNat 2 v.toNat }
  | .halted         => { s with halted := decide (v = 1) }
  | .dbgOut         => { s with dbgOut := decide (v = 1) }

/-- What an unlisted offset of the non-volatile space reads as (log 3). -/
def nvUnlisted : Byte := 0x00#8

/-- One byte of the non-volatile space; reads always succeed (R65, U8). -/
def Memory.read : Memory → Nat → Byte
  | [], _ => nvUnlisted
  | (k, b) :: m, a => if k = a then b else Memory.read m a

/-- One byte stored by the environment (the Seed Store or the calibration, R64, R72); no operation of
the FTD calls this. The form stays canonical: the byte that an unlisted offset reads as is not listed. -/
def Memory.write : Memory → Nat → Byte → Memory
  | [], a, v => if v = nvUnlisted then [] else [(a, v)]
  | (k, b) :: m, a, v =>
    if a < k then (if v = nvUnlisted then (k, b) :: m else (a, v) :: (k, b) :: m)
    else if a = k then (if v = nvUnlisted then m else (a, v) :: m)
    else (k, b) :: Memory.write m a v

/-- Every listed offset is above `lo` or there is no lower bound, offsets rise, no byte is the unlisted one. -/
def Memory.wfAbove : Option Nat → Memory → Bool
  | _, [] => true
  | lo, (k, b) :: m =>
    (match lo with
     | none   => true
     | some l => decide (l < k)) && decide (b ≠ nvUnlisted) && Memory.wfAbove (some k) m

/-- The canonical form of the non-volatile space: equal contents are equal lists. -/
def Memory.wf (m : Memory) : Bool := Memory.wfAbove none m

/-- `MemRead(addr, n)`: the sum of `NV[addr+i] * 256^i` for `i` in `0..n-1`, little-endian (R62). -/
def memRead (m : Memory) (addr : Nat) : Nat → Nat
  | 0     => 0
  | n + 1 => memRead m addr n + (Memory.read m (addr + n)).toNat * 256 ^ n

/-- `sext_N(v)`: the signed integer that the N-bit pattern `v` stands for (R10). -/
def sext (n v : Nat) : Int := (BitVec.ofNat n v).toInt

/-- The offset of the trim slot (R61). -/
def trimSlot : Nat := 4

/-- The size of the trim slot in bytes (R61). -/
def trimSlotBytes : Nat := 2

/-- The value RESET gives `trim_offset`: `sext_16(MemRead(4, 2))` if `TRIM_EN = 1`, else 0 (R28, R161). -/
def State.loadedTrim (s : State) : Int :=
  if s.cfg.trimEn then sext trimW (memRead s.nv trimSlot trimSlotBytes) else 0

/-- The offsets RESET drives on `nv_addr`: the slot's bytes in order if `TRIM_EN = 1`, else none (R40, R63). -/
def State.trimReads (s : State) : List NvAddr :=
  if s.cfg.trimEn then (List.range trimSlotBytes).map (fun i => BitVec.ofNat 3 (trimSlot + i)) else []

end Sys2Proof.Machine
end

