-- ==== Sys2Proof/Machine/Flags.lean ====
section
/-! DEFINITION. The level ports (R40), each a function of the state, and the views of the state that
rules name: the effective backlog (R31), the loaded trim's legality, the power state (R207). -/

namespace Sys2Proof.Machine

/-- Port `sleep` (R40). -/
def State.sleepPort (s : State) : Bool := s.sleeping

/-- Port `ready`: a MAIN operation is accepted (R40, R42). -/
def State.ready (s : State) : Bool := !s.sleeping && !s.halted

/-- Port `z`: the snapshot was zero (R33, R40). -/
def State.z (s : State) : Bool := decide (s.snap = 0)

/-- Port `snap_out` (R40). -/
def State.snapOut (s : State) : Nat := s.snap

/-- Port `fault` (R40). -/
def State.faultPort (s : State) : Bool := decide (s.faultCause ≠ 0#2)

/-- Port `fault_code` (R40). -/
def State.faultCode (s : State) : BitVec 2 := s.faultCause

/-- Port `dbg` (R40, R206). -/
def State.dbg (s : State) : Bool := s.dbgOut

/-- The effective backlog `backlog - owed` (R31). -/
def State.effectiveBacklog (s : State) : Int := (s.backlog : Int) - s.owed.toInt

/-- The timer clocks up to and including the next MATCH: `compare_value - timer_count + 1` (R87, R118). -/
def State.clocksToMatch (s : State) : Nat := s.compareValue - s.timerCount + 1

/-- The three power states of R207. -/
inductive PowerState where
  | active
  | asleep
  | stopped
deriving DecidableEq, Repr

/-- R207: Halted when `halted = 1`, else Sleep when `sleeping = 1`, else Active. -/
def State.powerState (s : State) : PowerState :=
  if s.halted then .stopped else if s.sleeping then .asleep else .active

/-- The loaded trim lets a machine of a legal configuration perform `i` (R7 (c), R113). RESET loads the
trim anew: it is accepted in every state (R161, R230) and judges only the trim it loads. -/
def State.admits (s : State) (i : Instr) : Bool :=
  decide (i = .reset) || s.cfg.trimLegal s.trimOffset

end Sys2Proof.Machine
end

