-- ==== Sys2Proof/Machine/Ops.lean ====
section
/-! DEFINITION. The shared operations: committing the writes of one step (R9, R10), emitting events
(R41), fault entry (R193), acceptance of MAIN operations (R131), and taking a word from `op` (R88). -/

namespace Sys2Proof.Machine

/-- The writes `name <- v` of one step. -/
abbrev Writes := List (Reg × Int)

/-- The state with every write made. Values are computed from the state before the step (R10), so the
order matters only when one element is written twice, which no rule does. -/
def State.putAll (s : State) (ws : Writes) : State :=
  ws.foldl (fun t w => t.set w.1 w.2) s

/-- The first write whose value is outside its register's range, if any (R9). -/
def firstMisfit (c : Config) (ws : Writes) : Option Reg :=
  (ws.find? (fun w => !w.1.fits c w.2)).map Prod.fst

/-- The end of a step: all its writes together (R10), each in its register's range (R9). -/
def commit (s : State) (ws : Writes) : Outcome :=
  match firstMisfit s.cfg ws with
  | none   => .next (s.putAll ws)
  | some r => .fault (.registerRange r)

/-- `emit Tick` (R41). -/
def State.emitTick (s : State) : State := { s with out := { s.out with tick := true } }

/-- `emit Wake` (R41). -/
def State.emitWake (s : State) : State := { s with out := { s.out with wake := true } }

/-- `emit PersistReq` (R41). -/
def State.emitPersistReq (s : State) : State := { s with out := { s.out with persistReq := true } }

/-- The offsets of a non-volatile read stand on `nv_addr` (R40). -/
def State.driveNv (s : State) (as : List NvAddr) : State := { s with out := { s.out with nvAddr := as } }

/-- The code of a fault cause (R35, R190). -/
def FaultCause.code : FaultCause → Int
  | .backlogUnderflow => 1
  | .backlogOverflow  => 2

/-- Fault entry, the step's whole effect (R193): `fault_cause <- code` if it was 0, `halted <- 1`,
`dbg_out <- DEBUG_LOCKUP_EN`. There is no vector, no saved context and no return (R195): only RESET
leaves the halt. -/
def raiseFault (f : FaultCause) (s : State) : Outcome :=
  commit s ((if s.faultCause = 0#2 then [(.faultCause, f.code)] else []) ++
    [(.halted, 1), (.dbgOut, s.cfg.debugLockupEn.toInt)])

/-- A MAIN operation is not accepted: no element changes, and the operation waits to be accepted. MAIN
stays at a blocked operation (R42, R131), so presenting it once more adds no second one (log 5). -/
def State.block (s : State) (i : Instr) : State :=
  { s with
    mainWaiting := if i ∈ s.mainWaiting then s.mainWaiting else s.mainWaiting ++ [i]
    out := { s.out with blocked := true } }

/-- A MAIN operation is accepted: it waits no more (R131, log 5). -/
def State.accept (s : State) (i : Instr) : State :=
  { s with mainWaiting := s.mainWaiting.filter (fun j => decide (j ≠ i)) }

/-- A step takes its word from `op`: the rest of the words stay, and the outputs of the step before
are gone (R41, R88). -/
def State.present (s : State) (rest : List OpWord) : State :=
  { s with words := rest, out := Outputs.quiet }

/-- The word on `op` and the words after it (R88). -/
def State.fetch (s : State) : Option (OpWord × List OpWord) :=
  match s.words with
  | []     => none
  | w :: r => some (w, r)

end Sys2Proof.Machine
end

