-- ==== Sys2Proof/Machine/Backlog.lean ====
section
/-! DEFINITION. The Backlog Accountant and the sleep controller: CONSUME (R132 to R135), SLEEP (R136). -/

namespace Sys2Proof.Machine

/-- The countdown after a consume, `persist_cnt - 1` before the reload (R133). -/
def State.countdown (s : State) : Int := (s.persistCnt : Int) - 1

/-- The countdown reaches zero in this consume (R133). -/
def State.persistDue (s : State) : Bool := decide (s.countdown = 0)

/-- `persist_cnt` after a consume: reloaded in the same step when it reaches zero (R133). -/
def State.nextPersist (s : State) : Int :=
  if s.persistDue then persistPeriod else s.countdown

/-- The decrement of the effective backlog (R134): the unit is owed when there is none. -/
def State.takeUnit (s : State) : Writes :=
  if s.backlog = 0 then [(.owed, 1)] else [(.backlog, (s.backlog : Int) - 1)]

/-- An accepted CONSUME (R132): the underflow check first (R135), then countdown, snapshot and
decrement in one step. -/
def consumeStep (s : State) : Outcome :=
  if s.owed then raiseFault .backlogUnderflow s
  else commit (if s.persistDue then s.emitPersistReq else s)
    ([(.persistCnt, s.nextPersist), (.snap, s.backlog)] ++ s.takeUnit)

/-- CONSUME (R132), blocked while `ready = 0` (R131). -/
def execConsume (s : State) : Outcome :=
  if s.ready then consumeStep (s.accept .consume) else .next (s.block .consume)

/-- SLEEP (R136, R142), unconditional once accepted; blocked while `ready = 0` (R131). -/
def execSleep (s : State) : Outcome :=
  if s.ready then commit (s.accept .sleep) [(.sleeping, 1)] else .next (s.block .sleep)

end Sys2Proof.Machine
end

