-- ==== Sys2Proof/Machine/System.lean ====
section
/-! DEFINITION. The operations of agent SYS: IDLE (R160) and RESET (R161). -/

namespace Sys2Proof.Machine

/-- IDLE: no change (R160). -/
def execIdle (s : State) : Outcome := .next s

/-- The writes of RESET (R43, R161). -/
def State.resetWrites (s : State) : Writes :=
  [(.timerCount, 0), (.compareValue, s.cfg.base + 1), (.nominalCompare, s.cfg.base + 1),
   (.cyclePosition, 0), (.acc, 0), (.trimOffset, s.loadedTrim),
   (.backlog, 0), (.owed, 0), (.sleeping, 0), (.snap, 0), (.persistCnt, persistPeriod),
   (.faultCause, 0), (.halted, 0), (.dbgOut, 0)]

/-- RESET: every element to its reset value, the trim loaded (R161). A loaded trim outside R113's
range makes the configuration illegal and is refused (R161 corner case (c)). -/
def execReset (s : State) : Outcome :=
  if s.cfg.trimLegal s.loadedTrim then commit (s.driveNv s.trimReads) s.resetWrites
  else .refused .trimOutOfRange

end Sys2Proof.Machine
end

