-- ==== Sys2Proof/Machine/TickGenerator.lean ====
section
/-! DEFINITION. The Tick Generator: TCLK (R100) and the micro-operation MATCH (R101 to R106, R110). -/

namespace Sys2Proof.Machine

/-- MATCH sub-step 1: `owed = 0` and `backlog = BACKLOG_MAX` (R102). -/
def State.overflows (s : State) : Bool :=
  !s.owed && decide (s.backlog = s.cfg.backlogMax)

/-- MATCH sub-step 2, `acc'`: the interval that ends is accumulated when `TRIM_EN = 1` (R103). -/
def State.accumulated (s : State) : Int :=
  if s.cfg.trimEn then (s.acc : Int) + (s.compareValue + 1) else s.acc

/-- MATCH sub-step 3, `pos'`: the position advances and wraps at `CYCLES` (R104). -/
def State.nextPosition (s : State) : Int :=
  if s.cyclePosition + 1 = s.cfg.cycles then 0 else s.cyclePosition + 1

/-- MATCH sub-step 3, `nom'`: the test for `CYCLES` is made after the one for `LONG_CYCLES`, so the
long value wins when both fire (R104). -/
def State.nextNominal (s : State) : Int :=
  if s.cyclePosition + 1 = s.cfg.cycles then s.cfg.base + 1
  else if s.cyclePosition + 1 = s.cfg.longCycles then s.cfg.base
  else s.nominalCompare

/-- MATCH sub-step 4: a correction falls due when the accumulator reaches the quantum (R105). -/
def State.trimDue (s : State) : Bool :=
  s.cfg.trimEn && decide ((trimQuantum : Int) ≤ s.accumulated)

/-- MATCH sub-step 4, the accumulator rolled over with its remainder kept (R105). -/
def State.nextAcc (s : State) : Int :=
  if s.trimDue then s.accumulated - trimQuantum else s.accumulated

/-- MATCH sub-step 4, `cmp'`: the trim offset is added to the next compare value only (R105). -/
def State.nextCompare (s : State) : Int :=
  if s.trimDue then s.nextNominal + s.trimOffset else s.nextNominal

/-- MATCH sub-step 5: the owed unit is repaid, or the backlog grows by one (R106). -/
def State.bankTick (s : State) : Writes :=
  if s.owed then [(.owed, 0)] else [(.backlog, s.backlog + 1)]

/-- MATCH sub-step 6: a sleeping main context is woken (R110). -/
def State.wakeWrites (s : State) : Writes :=
  if s.sleeping then [(.sleeping, 0)] else []

/-- MATCH sub-step 6: `Wake` when the main context slept, `Tick` always (R110). -/
def State.matchEvents (s : State) : State :=
  (if s.sleeping then s.emitWake else s).emitTick

/-- The writes of a MATCH that does not fault (R101). -/
def State.matchWrites (s : State) : Writes :=
  s.bankTick ++ s.wakeWrites ++
    [(.timerCount, 0), (.cyclePosition, s.nextPosition), (.nominalCompare, s.nextNominal),
     (.compareValue, s.nextCompare)] ++
    (if s.cfg.trimEn then [(.acc, s.nextAcc)] else [])

/-- MATCH, the compare-match handler, in one atomic step (R101). -/
def matchStep (s : State) : Outcome :=
  if s.overflows then raiseFault .backlogOverflow s
  else commit s.matchEvents s.matchWrites

/-- TCLK (R100, R114): accepted in every state; nothing while halted. -/
def execTclk (s : State) : Outcome :=
  if s.halted then .next s
  else if s.timerCount = s.compareValue then matchStep s
  else commit s [(.timerCount, s.timerCount + 1)]

end Sys2Proof.Machine
end

