-- ==== Sys2Proof/Machine/Dispatch.lean ====
section
/-! DEFINITION. One arm per operation of R82. -/

namespace Sys2Proof.Machine

def exec (i : Instr) (s : State) : Host.Outcome State Fault Refusal :=
  match i with
  | .idle => Sys2Proof.Machine.execIdle s
  | .reset => Sys2Proof.Machine.execReset s
  | .tclk => Sys2Proof.Machine.execTclk s
  | .consume => Sys2Proof.Machine.execConsume s
  | .sleep => Sys2Proof.Machine.execSleep s

end Sys2Proof.Machine
end

