-- ==== Sys2Proof/Machine/Step.lean ====
section
/-! DEFINITION. One step of the FTD: the word on `op` is decoded and performed (R11, R88). -/

namespace Sys2Proof.Machine

/-- One step. An illegal configuration has no runs (R7); a run ends when its words are used up (R250);
a reserved word is refused (R84), and so is an operation that the trim held makes illegal (R113). -/
def step (s : State) : Host.Outcome State Fault Refusal :=
  if s.cfg.legal = false then .refused .illegalConfiguration
  else match s.fetch with
    | none => .fault .endOfWords
    | some (w, rest) =>
      match decode w with
      | .ok i => if s.admits i then exec i (s.present rest) else .refused .trimOutOfRange
      | .error (.reserved w) => .refused (.reservedWord w)

/-- The state in which the next word on `op` is the table's word (R80, log 4): it takes the place of
the word that would have been presented. -/
def State.withFetchWord (s : State) (nbits w : Nat) : State :=
  { s with words := BitVec.ofNat 4 (w % 2 ^ nbits) :: s.words.tail }

end Sys2Proof.Machine
end

