-- ==== Sys2Proof/Machine/Program.lean ====
section
/-! DEFINITION. Program text (R86) and the pseudo-operations TICK and CTICK (R87). Texts are lists of
characters. A program is the sequence of words its agents present; the FTD stores none (R71). Log 10. -/

namespace Sys2Proof.Machine

/-- The machine goes on from the outcome of a step, or stays stopped. -/
def andThen (o : Outcome) (f : State → Outcome) : Outcome :=
  match o with
  | .next s    => f s
  | .fault r   => .fault r
  | .refused r => .refused r

/-- The words presented one after the other, each in a step of its own (R88). -/
def presentAll : List OpWord → State → Outcome
  | [], s      => .next s
  | w :: ws, s => andThen (step { s with words := [w] }) (presentAll ws)

/-- `n` TCLKs performed one after the other (R100). -/
def clocks : Nat → State → Outcome
  | 0, s     => .next s
  | n + 1, s => andThen (exec .tclk s) (clocks n)

/-- `TICK` as operations: the TCLKs up to and including the next MATCH (R87, R118). -/
def tick (s : State) : Outcome := clocks s.clocksToMatch s

/-- `TICK * n`: each TICK is expanded in the state it starts in (R87). -/
def ticks : Nat → State → Outcome
  | 0, s     => .next s
  | n + 1, s => andThen (tick s) (ticks n)

/-- `CTICK` as operations: CONSUME, then SLEEP if it was accepted and left `z = 1` (R87, R130, log 10). -/
def ctick (s : State) : Outcome :=
  andThen (exec .consume s) (fun t => if s.ready && t.z then exec .sleep t else .next t)

/-- The words that a line's item stands for in the state where it starts (R87). -/
def itemWords (s : State) : Item → List OpWord
  | .op i  => encode i
  | .tick  => List.replicate s.clocksToMatch (encodeWord .tclk)
  | .ctick =>
    match exec .consume s with
    | .next t => if s.ready && t.z then encode .consume ++ encode .sleep else encode .consume
    | _       => encode .consume

/-- The words of `n` copies of an item, each expanded in the state it starts in, with the state they
lead to; none if the machine stops on the way (R87). -/
def copies (it : Item) : Nat → List OpWord × State → Option (List OpWord × State)
  | 0, p          => some p
  | n + 1, (ws, s) =>
    match presentAll (itemWords s it) s with
    | .next t => copies it n (ws ++ itemWords s it, t)
    | _       => none

/-- The words of a program and the state they lead to (R86, R87); none if the machine stops on the
way or a line's count is not "at least 1". -/
def expand : List Line → List OpWord × State → Option (List OpWord × State)
  | [], p      => some p
  | l :: ls, p => if l.wellFormed then (copies l.item l.count p).bind (expand ls) else none

/-- The mnemonic of an operation (R82, R86). -/
def mnemonic : Instr → List Char
  | .idle    => ['I', 'D', 'L', 'E']
  | .reset   => ['R', 'E', 'S', 'E', 'T']
  | .tclk    => ['T', 'C', 'L', 'K']
  | .consume => ['C', 'O', 'N', 'S', 'U', 'M', 'E']
  | .sleep   => ['S', 'L', 'E', 'E', 'P']

/-- The name of an item in a program text (R86, R87). -/
def Item.name : Item → List Char
  | .op i  => mnemonic i
  | .tick  => ['T', 'I', 'C', 'K']
  | .ctick => ['C', 'T', 'I', 'C', 'K']

/-- Everything a program line may name. -/
def allItems : List Item :=
  [.op .idle, .op .reset, .op .tclk, .op .consume, .op .sleep, .tick, .ctick]

/-- The item of that name, upper case (R86). -/
def itemNamed (cs : List Char) : Option Item :=
  allItems.find? (fun it => decide (Item.name it = cs))

/-- The value of a decimal digit. -/
def digit (c : Char) : Option Nat :=
  if '0'.toNat ≤ c.toNat ∧ c.toNat ≤ '9'.toNat then some (c.toNat - '0'.toNat) else none

/-- A decimal number, read from the digits after those that gave `acc`. -/
def decimalFrom (acc : Nat) : List Char → Option Nat
  | []      => some acc
  | c :: cs => (digit c).bind (fun d => decimalFrom (acc * 10 + d) cs)

/-- A decimal number of at least one digit. -/
def decimal : List Char → Option Nat
  | [] => none
  | cs => decimalFrom 0 cs

/-- A line without its comment: a `;` starts a comment to the end of the line (R86). -/
def stripComment (cs : List Char) : List Char := cs.takeWhile (fun c => c != ';')

/-- The words of a line between blanks, with `*` a word of its own. `cur` is the word being read, backwards. -/
def tokens (cur : List Char) : List Char → List (List Char)
  | []      => if cur = [] then [] else [cur.reverse]
  | c :: cs =>
    if c = ' ' then (if cur = [] then tokens [] cs else cur.reverse :: tokens [] cs)
    else if c = '*' then (if cur = [] then ['*'] :: tokens [] cs else cur.reverse :: ['*'] :: tokens [] cs)
    else tokens (c :: cur) cs

/-- One line of text: nothing, `<name>`, or `<name> * <count>` (R86). -/
def parseLine (cs : List Char) : Option (List Line) :=
  match tokens [] (stripComment cs) with
  | []        => some []
  | [n]       => (itemNamed n).map (fun it => [⟨it, 1⟩])
  | [n, m, k] =>
    if m = ['*'] then
      match itemNamed n, decimal k with
      | some it, some c => if 1 ≤ c then some [⟨it, c⟩] else none
      | _, _            => none
    else none
  | _ => none

/-- The lines of a text; `cur` is the line being read, backwards. -/
def splitLines (cur : List Char) : List Char → List (List Char)
  | []      => [cur.reverse]
  | c :: cs => if c = '\n' then cur.reverse :: splitLines [] cs else splitLines (c :: cur) cs

/-- The lines of a program, in order, from texts that each parse. -/
def parseLines : List (List Char) → Option (List Line)
  | []      => some []
  | t :: ts => (parseLine t).bind (fun l => (parseLines ts).map (fun ls => l ++ ls))

/-- A program text (R86). -/
def parse (cs : List Char) : Option (List Line) := parseLines (splitLines [] cs)

/-- The hexadecimal digit of a word (R86). -/
def hexDigit (w : OpWord) : Char :=
  if w.toNat < 10 then Char.ofNat ('0'.toNat + w.toNat) else Char.ofNat ('A'.toNat + (w.toNat - 10))

/-- The encoding of a program: its words as hexadecimal digits in program order (R86). -/
def nibbles (ws : List OpWord) : List Char := ws.map hexDigit

end Sys2Proof.Machine
end

