-- ==== Sys2Proof/Safety.lean ====
section
/-! DEFINITION. The terms in which statements about the FTD are made: the invariant of R46, the
ownership table of R38, the end of a run (R250), the ledger of R138 and the consumer's protocol (R178). -/

namespace Sys2Proof.Machine

/-- Every element holds a value of its register (R9, R22). -/
def State.inRange (s : State) : Prop := ∀ r : Reg, r.fits s.cfg (s.get r) = true

/-- R46 (d): the compare value is the pattern's, or carries one trim correction. -/
def State.compareExplained (s : State) : Prop :=
  s.compareValue = s.nominalCompare ∨
    (s.cfg.trimEn = true ∧ (s.compareValue : Int) = s.nominalCompare + s.trimOffset)

/-- The invariant of R46, with what it presumes: a legal instance (R7), an interval shorter than the
trim quantum (R105, log 9), registers that hold their values (R22, R35), and the debug line of a halted
machine (R195). -/
structure State.Inv (s : State) : Prop where
  legal        : s.cfg.legal = true
  trimLegal    : s.cfg.trimLegal s.trimOffset = true
  trimZero     : s.cfg.trimEn = false → s.trimOffset = 0
  trimRange    : Reg.trimOffset.fits s.cfg s.trimOffset = true
  shortClock   : 2 ^ s.cfg.cmpW ≤ trimQuantum
  timer        : s.timerCount ≤ s.compareValue
  position     : s.cyclePosition < s.cfg.cycles
  nominal      : s.nominalCompare = s.cfg.nominalAt s.cyclePosition
  compare      : s.compareExplained
  accBound     : s.acc < trimQuantum
  accZero      : s.cfg.trimEn = false → s.acc = 0
  owedEmpty    : s.owed = true → s.backlog = 0
  backlogMax   : s.backlog ≤ s.cfg.backlogMax
  snapMax      : s.snap ≤ s.cfg.backlogMax
  persistLow   : 1 ≤ s.persistCnt
  persistHigh  : s.persistCnt ≤ persistPeriod
  causeWritten : s.faultCause ≠ 3#2
  haltedCause  : s.halted = true ↔ s.faultCause ≠ 0#2
  debug        : s.dbgOut = true → s.halted = true ∧ s.cfg.debugLockupEn = true
  debugHeld    : s.halted = true → s.cfg.debugLockupEn = true → s.dbgOut = true

/-- The columns of the ownership table (R38). -/
inductive Column where
  | tclkNoMatch
  | matchOp
  | consume
  | sleep
  | faultEntry
deriving DecidableEq, Repr

/-- The elements a column may write (R38). -/
def Column.writes : Column → List Reg
  | .tclkNoMatch => [.timerCount]
  | .matchOp     => [.timerCount, .compareValue, .nominalCompare, .cyclePosition, .acc, .backlog, .owed,
                     .sleeping]
  | .consume     => [.backlog, .owed, .snap, .persistCnt]
  | .sleep       => [.sleeping]
  | .faultEntry  => [.faultCause, .halted, .dbgOut]

/-- The elements a column may read (R38). -/
def Column.reads : Column → List Reg
  | .tclkNoMatch => [.timerCount, .compareValue, .halted]
  | .matchOp     => [.timerCount, .compareValue, .nominalCompare, .cyclePosition, .acc, .trimOffset,
                     .backlog, .owed, .sleeping, .halted]
  | .consume     => [.backlog, .owed, .sleeping, .persistCnt, .halted]
  | .sleep       => [.sleeping, .halted]
  | .faultEntry  => [.faultCause]

/-- The columns that an operation other than RESET may act under; RESET is left out of R38's table. -/
def columns : Instr → List Column
  | .idle    => []
  | .reset   => []
  | .tclk    => [.tclkNoMatch, .matchOp, .faultEntry]
  | .consume => [.consume, .faultEntry]
  | .sleep   => [.sleep]

/-- The column under which an operation acts in a state: none when it changes nothing (R100, R131),
and fault entry alone when it faults (R193). -/
def activeColumns (i : Instr) (s : State) : List Column :=
  match i with
  | .idle    => []
  | .reset   => []
  | .tclk    =>
    if s.halted then []
    else if s.timerCount ≠ s.compareValue then [.tclkNoMatch]
    else if s.owed = false ∧ s.backlog = s.cfg.backlogMax then [.faultEntry]
    else [.matchOp]
  | .consume => if s.ready = false then [] else if s.owed then [.faultEntry] else [.consume]
  | .sleep   => if s.ready = false then [] else [.sleep]

/-- The elements an operation may write in a state under R38. -/
def mayWrite (i : Instr) (s : State) : List Reg := (activeColumns i s).flatMap Column.writes

/-- The elements an operation may read or write under R38. -/
def mayTouch (i : Instr) : List Reg := (columns i).flatMap (fun c => c.reads ++ c.writes)

/-- An outcome with its next state, if any, changed. -/
def mapNext (f : State → State) (o : Outcome) : Outcome := andThen o (fun s => .next (f s))

/-- R250: the words are used up, no fault is latched and no MAIN operation was left blocked: every one
that was blocked has been accepted since. -/
def State.goodEnd (s : State) : Bool :=
  s.words.isEmpty && decide (s.faultCause = 0#2) && s.mainWaiting.isEmpty

/-- R250: halted, or the words ran out before a MAIN operation could be accepted. -/
def State.failedEnd (s : State) : Bool :=
  s.halted || (s.words.isEmpty && !s.mainWaiting.isEmpty)

/-- The operation that the next step performs, if the word on `op` is one. -/
def State.nextInstr (s : State) : Option Instr :=
  match s.words with
  | []     => none
  | w :: _ => (decode w).toOption

/-- The next step is a CONSUME that is accepted and does not fault (R138). -/
def State.consumesNext (s : State) : Bool :=
  decide (s.nextInstr = some .consume) && s.ready && !s.owed

/-- The counts of R138 since RESET: MATCHes and accepted CONSUMEs that did not fault. -/
structure Ledger where
  produced : Nat
  consumed : Nat
deriving DecidableEq, Repr

/-- The ledger after the step from `s` to `t`: every `Tick` is one MATCH that did not fault (R41). -/
def Ledger.after (l : Ledger) (s t : State) : Ledger :=
  if s.nextInstr = some .reset then ⟨0, 0⟩
  else ⟨l.produced + t.out.tick.toNat, l.consumed + s.consumesNext.toNat⟩

/-- `k` steps with their ledger; none if the machine stops before. -/
def runLedger : Nat → State → Ledger → Option (State × Ledger)
  | 0, s, l     => some (s, l)
  | k + 1, s, l =>
    match step s with
    | .next t => runLedger k t (l.after s t)
    | _       => none

/-- The main context owes the FTD a SLEEP or a wait for a MATCH before its next CONSUME (R178 (a)): its
last CONSUME left `z = 1`, and neither a SLEEP nor a MATCH has come since. -/
def mustWait (waiting : Bool) (s t : State) : Bool :=
  if s.nextInstr = some .reset then false
  else if t.out.tick then false
  else if decide (s.nextInstr = some .consume) && s.ready then t.z
  else if decide (s.nextInstr = some .sleep) && s.ready then false
  else waiting

/-- The protocol of R178 (a) over `k` steps: no CONSUME is presented to a ready FTD while the main
context must wait. -/
def keepsProtocol : Nat → Bool → State → Bool
  | 0, _, _           => true
  | k + 1, waiting, s =>
    match step s with
    | .next t =>
      !(waiting && decide (s.nextInstr = some .consume) && s.ready) && keepsProtocol k (mustWait waiting s t) t
    | _ => true

/-- `n` TICKs with the timer clocks they took and the trim corrections made on the way (R105, R112);
none if the machine stops or halts before. -/
def tickTotals : Nat → State → Option (State × Nat × Nat)
  | 0, s     => some (s, 0, 0)
  | n + 1, s =>
    match tick s with
    | .next t =>
      if t.halted then none
      else (tickTotals n t).map (fun p => (p.1, s.clocksToMatch + p.2.1, s.trimDue.toNat + p.2.2))
    | _ => none

/-- The next step counts a timer clock: a TCLK of a machine that is not halted (R100). One that raises
the overflow fault is none, since it changes neither the timer nor the accumulator (R102). -/
def State.clocksNext (s t : State) : Bool :=
  decide (s.nextInstr = some .tclk) && !s.halted && !t.halted

/-- The counts of R112 since RESET: timer clocks and trim corrections. -/
structure TrimLedger where
  elapsed     : Nat
  corrections : Nat
deriving DecidableEq, Repr

/-- The counts after the step from `s` to `t`: a MATCH, which emits `Tick`, corrects when one is due (R105). -/
def TrimLedger.after (l : TrimLedger) (s t : State) : TrimLedger :=
  if s.nextInstr = some .reset then ⟨0, 0⟩
  else ⟨l.elapsed + (s.clocksNext t).toNat, l.corrections + (t.out.tick && s.trimDue).toNat⟩

/-- Every timer clock counted is in the timer, in the accumulator, or in a correction made (R103, R105). -/
def TrimLedger.balanced (l : TrimLedger) (s : State) : Prop :=
  s.acc + s.timerCount + trimQuantum * l.corrections = l.elapsed

/-- The configuration option and the output line of R208 left out. -/
def State.undebugged (s : State) : State :=
  { s with cfg := { s.cfg with debugLockupEn := false }, dbgOut := false }

/-- The outputs of the last step left out: the FTD's state and its launch parameters. -/
def State.silent (s : State) : State := { s with out := Outputs.quiet }

end Sys2Proof.Machine
end

