-- ==== Sys2Proof/Certificates/Slice0/Obligations.lean ====
section
/-! DEFINITION. The statements for the provers. Rules and files are those of spec/; "log <n>" is
notes/assumptions/<n>.md. -/

open Sys2Proof Sys2Proof.Machine

/-! ### Encoding and stepping -/

/-- Every operation has one word, whose `agt` field is its agent's, and that word decodes to it
(30_encoding.md section 2). -/
def Obligations.EncodedOperationDecodes : Prop :=
  ∀ i : Instr, i.wellFormed = true →
    encode i = [encodeWord i] ∧ decode (encodeWord i) = .ok i ∧
      OpWord.agt (encodeWord i) = i.agent.field

/-- A word decodes to an operation only if it is that operation's word (30_encoding.md section 2). -/
def Obligations.DecodedWordIsTheEncoding : Prop :=
  ∀ (w : OpWord) (i : Instr), decode w = .ok i ↔ w = encodeWord i

/-- R82's map, written out, and the same words as the opcode table numbers them. -/
def Obligations.OpcodeWordsDecodeAsWritten : Prop :=
  decode 0b0000#4 = .ok .idle ∧ decode 0b0001#4 = .ok .reset ∧ decode 0b0100#4 = .ok .tclk ∧
    decode 0b1000#4 = .ok .consume ∧ decode 0b1001#4 = .ok .sleep ∧
    decodeTableWord 8 0x4 = some .tclk ∧ decodeTableWord 8 0x9 = some .sleep ∧
    decodeTableWord 8 0xA = none

/-- A step performs the operation of the word on `op`, RESET whatever trim is held; around `exec` it only
takes the word and drops the outputs of the step before (R11, R88; log 4, log 6, log 8). -/
def Obligations.StepRunsTheDecodedWord : Prop :=
  ∀ (s : State) (w : OpWord) (rest : List OpWord) (i : Instr),
    s.cfg.legal = true → (i = .reset ∨ s.cfg.trimLegal s.trimOffset = true) →
    s.words = w :: rest → decode w = .ok i →
    step s = exec i { s with words := rest, out := Outputs.quiet }

/-- The opcode table's word, placed on `op`, is what the next step performs (log 4, log 11). -/
def Obligations.TableWordRunsNext : Prop :=
  ∀ (s : State) (nbits w : Nat) (i : Instr),
    s.cfg.legal = true → (i = .reset ∨ s.cfg.trimLegal s.trimOffset = true) →
    decodeTableWord nbits w = some i →
    step (s.withFetchWord nbits w) =
      exec i { s with words := s.words.tail, out := Outputs.quiet }

/-- R84: exactly the eleven reserved words are refused as such. -/
def Obligations.ReservedWordIsRefused : Prop :=
  ∀ (s : State) (w : OpWord) (rest : List OpWord),
    s.cfg.legal = true → s.words = w :: rest →
    (step s = .refused (.reservedWord w) ↔
      w = 0x2#4 ∨ w = 0x3#4 ∨ w = 0x5#4 ∨ w = 0x6#4 ∨ w = 0x7#4 ∨ w = 0xA#4 ∨ w = 0xB#4 ∨
        w = 0xC#4 ∨ w = 0xD#4 ∨ w = 0xE#4 ∨ w = 0xF#4)

/-- An illegal configuration has no runs (R7, U4; log 8 for the widths). A trim held outside R113's range
stops every operation but RESET, which judges the trim it loads and no other (log 8). -/
def Obligations.IllegalLaunchIsRefused : Prop :=
  ∀ s : State,
    ((s.cfg.longCycles = 0 ∨ s.cfg.cycles < s.cfg.longCycles ∨ 2 ^ s.cfg.posW ≤ s.cfg.cycles ∨
        2 ^ s.cfg.cmpW ≤ s.cfg.base + 1) → step s = .refused .illegalConfiguration) ∧
    (∀ (i : Instr) (rest : List OpWord), s.cfg.legal = true → s.cfg.trimEn = true →
      s.words = encodeWord i :: rest →
      (step s = .refused .trimOutOfRange ↔
        if i = .reset then
          ¬ (-(s.cfg.base : Int) ≤ s.loadedTrim ∧ s.loadedTrim ≤ 2 ^ s.cfg.cmpW - 2 - s.cfg.base)
        else
          ¬ (-(s.cfg.base : Int) ≤ s.trimOffset ∧ s.trimOffset ≤ 2 ^ s.cfg.cmpW - 2 - s.cfg.base)))

/-- The model's choice of log 4: with no word left the run is over (70_reset_and_hazards.md section 5). -/
def Obligations.RunEndsWithItsWords : Prop :=
  ∀ s : State, s.cfg.legal = true → (step s = .fault .endOfWords ↔ s.words = [])

/-! ### IDLE and RESET -/

/-- R160: IDLE changes nothing in any state, and a sequence with its IDLE words removed has the same
effect (outputs, which last one step, apart). -/
def Obligations.IdleHasNoEffect : Prop :=
  (∀ s : State, exec .idle s = .next s) ∧
    ∀ (ws : List OpWord) (s : State), s.cfg.legal = true → s.cfg.trimLegal s.trimOffset = true →
      s.words = [] →
      mapNext State.silent (presentAll ws s) =
        mapNext State.silent (presentAll (ws.filter (fun w => decide (w ≠ 0x0#4))) s)

/-- RESET from every state: the elements as in 10_state.md section 9, no event. That it drives the
offsets 4 and 5 on `nv_addr` for the step is log 6's choice of where R40 and R63 show, and that it leaves
the MAIN operations that wait, and the words, as they were is the model's choice (logs 4, 5). -/
def Obligations.ResetGivesTheResetState : Prop :=
  ∀ s : State, s.cfg.legal = true →
    s.cfg.trimLegal (if s.cfg.trimEn then sext 16 (memRead s.nv 4 2) else 0) = true →
    exec .reset s = .next
      { s with
        timerCount := 0, compareValue := s.cfg.base + 1, nominalCompare := s.cfg.base + 1,
        cyclePosition := 0, acc := 0,
        trimOffset := if s.cfg.trimEn then sext 16 (memRead s.nv 4 2) else 0,
        backlog := 0, owed := false, sleeping := false, snap := 0, persistCnt := 864000,
        faultCause := 0#2, halted := false, dbgOut := false,
        out := { s.out with nvAddr := if s.cfg.trimEn then [4#3, 5#3] else [] } }

/-- R113: a persisted trim for which one of the two nominal compare values would leave the compare
register is refused, and no other is. -/
def Obligations.ResetRefusesTrimOutOfRange : Prop :=
  ∀ s : State, s.cfg.trimEn = true →
    (exec .reset s = .refused .trimOutOfRange ↔
      ¬ (-(s.cfg.base : Int) ≤ sext 16 (memRead s.nv 4 2) ∧
          sext 16 (memRead s.nv 4 2) ≤ 2 ^ s.cfg.cmpW - 2 - s.cfg.base))

/-- R62: `MemRead` is little-endian, and the trim is the signed 16-bit value of the bytes at 4 and 5. -/
def Obligations.NonVolatileReadIsLittleEndian : Prop :=
  (∀ (m : Memory) (addr n : Nat), memRead m addr n =
      ∑ i ∈ Finset.range n, (Memory.read m (addr + i)).toNat * 256 ^ i) ∧
    (∀ s : State, s.cfg.trimEn = true → s.loadedTrim =
      sext 16 ((Memory.read s.nv 4).toNat + 256 * (Memory.read s.nv 5).toNat)) ∧
    sext 16 (memRead [(4, 0xFD#8), (5, 0xFF#8)] 4 2) = -3

/-- "The state after RESET does not depend on the state before it" (42_system_ops.md): two RESETs of
one instance with the same trim slot leave every element equal. -/
def Obligations.ResetForgetsThePast : Prop :=
  ∀ s s' t t' : State, s.cfg = s'.cfg →
    Memory.read s.nv 4 = Memory.read s'.nv 4 → Memory.read s.nv 5 = Memory.read s'.nv 5 →
    exec .reset s = .next t → exec .reset s' = .next t' → ∀ r : Reg, t.get r = t'.get r

/-- RESET of the instance that `State.reset` takes (the model's choice of log 2) leaves every element
as `State.reset` has it, whatever the non-volatile space holds. -/
def Obligations.ResetOfTheDefaultInstance : Prop :=
  ∀ s : State, s.cfg = defaultConfig →
    ∃ t, exec .reset s = .next t ∧ ∀ r : Reg, t.get r = State.reset.get r

/-! ### TCLK and MATCH -/

/-- TCLK while halted, and TCLK below the compare value (40_tick_generator.md section 1). -/
def Obligations.TclkCountsUnlessHalted : Prop :=
  ∀ s : State,
    (s.halted = true → exec .tclk s = .next s) ∧
    (s.halted = false → s.timerCount < s.compareValue → s.compareValue ≤ 2 ^ s.cfg.cmpW - 1 →
      exec .tclk s = .next { s with timerCount := s.timerCount + 1 })

/-- R101, R104, R106, R110: the TCLK that finds `timer_count = compare_value` performs the sub-steps of
MATCH in one step, or takes the overflow fault with none of them. -/
def Obligations.MatchPerformsItsSubsteps : Prop :=
  ∀ s : State, s.Inv → s.halted = false → s.timerCount = s.compareValue →
    exec .tclk s = .next
      (let acc' := if s.cfg.trimEn then s.acc + (s.compareValue + 1) else s.acc
       let nom' := if s.cyclePosition + 1 = s.cfg.cycles then s.cfg.base + 1
         else if s.cyclePosition + 1 = s.cfg.longCycles then s.cfg.base else s.nominalCompare
       let due := s.cfg.trimEn && decide (10000000 ≤ acc')
       if s.owed = false ∧ s.backlog = s.cfg.backlogMax then
         { s with faultCause := 2#2, halted := true, dbgOut := s.cfg.debugLockupEn }
       else
         { s with
           timerCount := 0,
           cyclePosition := if s.cyclePosition + 1 = s.cfg.cycles then 0 else s.cyclePosition + 1,
           nominalCompare := nom',
           compareValue := if due then ((nom' : Int) + s.trimOffset).toNat else nom',
           acc := if due then acc' - 10000000 else acc',
           backlog := if s.owed then s.backlog else s.backlog + 1,
           owed := false, sleeping := false,
           out := { s.out with tick := true, wake := s.out.wake || s.sleeping } })

/-- R102: a full backlog with nothing owed stops the machine at the next MATCH, and nothing else of the
MATCH happens; with a unit owed the check does not fire. -/
def Obligations.OverflowStopsTheMatch : Prop :=
  ∀ s : State, s.halted = false → s.timerCount = s.compareValue →
    (s.owed = false → s.backlog = s.cfg.backlogMax → s.faultCause = 0#2 →
      exec .tclk s = .next
        { s with faultCause := 2#2, halted := true, dbgOut := s.cfg.debugLockupEn }) ∧
    (s.owed = true → ∀ t, exec .tclk s = .next t → t.halted = false ∧ t.faultCause = s.faultCause)

/-- R103 and R105 in integers: the accumulator takes the true length of the interval that ends, and
keeps the remainder when a correction falls due; the offset goes to the next compare value only. -/
def Obligations.TrimCorrectsOneInterval : Prop :=
  ∀ s t : State, s.Inv → s.halted = false → s.timerCount = s.compareValue →
    exec .tclk s = .next t → t.halted = false →
    (s.cfg.trimEn = false → t.acc = s.acc ∧ t.compareValue = t.nominalCompare) ∧
    (s.cfg.trimEn = true → s.acc + (s.compareValue + 1) < 10000000 →
      t.acc = s.acc + (s.compareValue + 1) ∧ t.compareValue = t.nominalCompare) ∧
    (s.cfg.trimEn = true → 10000000 ≤ s.acc + (s.compareValue + 1) →
      t.acc + 10000000 = s.acc + (s.compareValue + 1) ∧ t.acc < 10000000 ∧
        (t.compareValue : Int) = t.nominalCompare + s.trimOffset)

/-- R117: what no TCLK ever does. -/
def Obligations.MatchLeavesTheMainContext : Prop :=
  ∀ s t : State, exec .tclk s = .next t →
    t.snap = s.snap ∧ t.persistCnt = s.persistCnt ∧ t.out.persistReq = s.out.persistReq ∧
      t.out.nvAddr = s.out.nvAddr ∧ t.nv = s.nv ∧ s.backlog ≤ t.backlog

/-! ### CONSUME and SLEEP -/

/-- CONSUME in full: accepted, it faults when a unit is owed and otherwise counts down, takes the snapshot
and one unit; not accepted, it is blocked (41_backlog_sleep.md section 2). What waits to be accepted, and
that a blocked word answers a next state, is the model's choice (log 5). -/
def Obligations.ConsumeTakesOneTick : Prop :=
  ∀ s : State, 1 ≤ s.persistCnt → s.persistCnt ≤ 864000 → 864000 ≤ 2 ^ s.cfg.pcntW - 1 →
    s.backlog ≤ s.cfg.backlogMax →
    exec .consume s = .next
      (if s.sleeping = true ∨ s.halted = true then
         { s with
           mainWaiting := if .consume ∈ s.mainWaiting then s.mainWaiting else s.mainWaiting ++ [.consume],
           out := { s.out with blocked := true } }
       else if s.owed = true then
         { s with
           mainWaiting := s.mainWaiting.filter (fun j => decide (j ≠ .consume)),
           faultCause := if s.faultCause = 0#2 then 1#2 else s.faultCause,
           halted := true, dbgOut := s.cfg.debugLockupEn }
       else
         { s with
           mainWaiting := s.mainWaiting.filter (fun j => decide (j ≠ .consume)),
           persistCnt := if s.persistCnt = 1 then 864000 else s.persistCnt - 1,
           snap := s.backlog,
           owed := decide (s.backlog = 0),
           backlog := s.backlog - 1,
           out := { s.out with persistReq := s.out.persistReq || decide (s.persistCnt = 1) } })

/-- SLEEP sets `sleeping` and nothing else, whatever is owed; when not accepted it is blocked
(41_backlog_sleep.md section 3, log 5). -/
def Obligations.SleepEntersSleep : Prop :=
  ∀ s : State,
    exec .sleep s = .next
      (if s.sleeping = true ∨ s.halted = true then
         { s with
           mainWaiting := if .sleep ∈ s.mainWaiting then s.mainWaiting else s.mainWaiting ++ [.sleep],
           out := { s.out with blocked := true } }
       else
         { s with
           mainWaiting := s.mainWaiting.filter (fun j => decide (j ≠ .sleep)), sleeping := true })

/-! ### Faults and the halt -/

/-- R193: fault entry writes the three fault elements and nothing else, and the first cause stays. -/
def Obligations.FaultEntryIsPrecise : Prop :=
  ∀ (s : State) (f : FaultCause),
    raiseFault f s = .next
      { s with
        faultCause := if s.faultCause = 0#2 then
          (match f with | .backlogUnderflow => 1#2 | .backlogOverflow => 2#2) else s.faultCause,
        halted := true, dbgOut := s.cfg.debugLockupEn }

/-- While halted, no operation but RESET changes an element, a MAIN operation is blocked and not accepted,
and the ports stand as 60_exceptions.md section 2 has them. That a blocked word answers a next state is
the model's choice (log 5). -/
def Obligations.HaltedMachineIsFrozen : Prop :=
  ∀ (s : State) (i : Instr), s.halted = true → i ≠ .reset →
    s.ready = false ∧
    (s.Inv → s.faultPort = true ∧ (s.faultCode = 1#2 ∨ s.faultCode = 2#2) ∧
      s.dbg = s.cfg.debugLockupEn) ∧
    ∃ t, exec i s = .next t ∧ (∀ r : Reg, t.get r = s.get r) ∧
      t.out.tick = s.out.tick ∧ t.out.wake = s.out.wake ∧ t.out.persistReq = s.out.persistReq ∧
      t.out.blocked = (s.out.blocked || decide (i.agent = .main))

/-- Only one fault happens between two RESETs (60_exceptions.md section 2): a latched cause stays until
a step performs RESET. -/
def Obligations.FaultStaysUntilReset : Prop :=
  ∀ s t : State, s.Inv → s.faultCause ≠ 0#2 → step s = .next t → s.nextInstr ≠ some .reset →
    t.faultCause = s.faultCause ∧ t.halted = true

/-- R208: two instances that differ only in `DEBUG_LOCKUP_EN`, in states that differ at most in
`dbg_out`, step alike: to the same stop, or to states that differ at most in `dbg_out`. -/
def Obligations.DebugOptionOnlyDrivesTheLine : Prop :=
  ∀ (s : State) (option line : Bool),
    mapNext State.undebugged
        (step { s with cfg := { s.cfg with debugLockupEn := option }, dbgOut := line }) =
      mapNext State.undebugged (step s)

/-! ### Frames and ownership -/

/-- R38, the write columns: an operation other than RESET changes only the elements of the column under
which it acts. -/
def Obligations.OperationsWriteOnlyTheirColumn : Prop :=
  ∀ (i : Instr) (s t : State) (r : Reg), i ≠ .reset → exec i s = .next t → r ∉ mayWrite i s →
    t.get r = s.get r

/-- R38, the read columns: an operation other than RESET does the same whatever an element it neither
reads nor writes holds, and leaves that element as it was. -/
def Obligations.OperationsReadOnlyTheirColumn : Prop :=
  ∀ (i : Instr) (s : State) (r : Reg) (v : Int), i ≠ .reset → r ∉ mayTouch i →
    exec i (s.set r v) = mapNext (fun t => t.set r v) (exec i s)

/-- R64: no operation writes the non-volatile space: every offset reads as before. -/
def Obligations.NonVolatileSpaceIsNeverWritten : Prop :=
  ∀ (i : Instr) (s t : State), exec i s = .next t →
    t.nv = s.nv ∧ ∀ a : Nat, Memory.read t.nv a = Memory.read s.nv a

/-- No operation writes the configuration (00_scope.md section 4). That the words to come are state, and
that every step, a blocked MAIN word's too, uses up one of them, is the model's choice (logs 4, 5). -/
def Obligations.LaunchParametersAreConstant : Prop :=
  (∀ (i : Instr) (s t : State), exec i s = .next t → t.cfg = s.cfg ∧ t.words = s.words) ∧
    ∀ s t : State, step s = .next t → t.cfg = s.cfg ∧ ∃ w, s.words = w :: t.words

/-- The environment may store any byte outside the trim slot, and any byte at all when the next word is
not RESET or `TRIM_EN = 0`, without changing what the step does (20_memory.md section 3). -/
def Obligations.NonVolatileStoresAreInvisible : Prop :=
  ∀ (s : State) (a : Nat) (v : Byte),
    (a ≠ 4 ∧ a ≠ 5) ∨ s.cfg.trimEn = false ∨ s.nextInstr ≠ some .reset →
    step { s with nv := Memory.write s.nv a v } =
      mapNext (fun t => { t with nv := Memory.write t.nv a v }) (step s)

/-- R32: SLEEP sets `sleeping`, a MATCH (which emits `Tick`) clears it, and nothing else but RESET writes
it; while it is set no MAIN operation is accepted. -/
def Obligations.OnlyMatchOrResetEndsSleep : Prop :=
  ∀ s t : State, step s = .next t →
    (s.sleeping = false → t.sleeping = true → s.nextInstr = some .sleep) ∧
    (s.sleeping = true → t.sleeping = false →
      s.nextInstr = some .reset ∨ (s.nextInstr = some .tclk ∧ t.out.tick = true)) ∧
    (s.nextInstr = some .sleep → s.ready = true → t.sleeping = true) ∧
    (t.out.tick = true → t.sleeping = false) ∧
    (s.sleeping = true → s.nextInstr = some .consume ∨ s.nextInstr = some .sleep →
      t.out.blocked = true ∧ ∀ r : Reg, t.get r = s.get r)

/-! ### Invariants -/

/-- The invariant of R46 (10_state.md section 10), with the widths and the clock bound the model presumes
(logs 8, 9) and the debug line of a halted machine (R195), is kept by every step, from every state that has it. -/
def Obligations.StepKeepsTheInvariant : Prop :=
  ∀ s t : State, s.Inv → step s = .next t → t.Inv

/-- `State.reset`, the reset state of the instance the model chose (log 2), has the invariant
(10_state.md sections 9 and 10). -/
def Obligations.ResetStateHasTheInvariant : Prop :=
  State.reset.Inv

/-- RESET establishes the invariant from any state of a legal instance with intervals shorter than the
quantum (10_state.md sections 9 and 10, log 9). -/
def Obligations.ResetEstablishesTheInvariant : Prop :=
  ∀ s t : State, s.cfg.legal = true → 2 ^ s.cfg.cmpW ≤ trimQuantum → exec .reset s = .next t → t.Inv

/-- Under the invariant every element holds a value of its register (00_scope.md section 5). -/
def Obligations.InvariantKeepsRegistersInRange : Prop :=
  ∀ s : State, s.Inv → s.inRange

/-- Every step keeps the elements in range (00_scope.md section 5), from any state in which they are: a
write outside its register has no next state (log 1). -/
def Obligations.StepNeverLeavesARegister : Prop :=
  ∀ s t : State, s.inRange → step s = .next t → t.inRange

/-- Under the invariant a step always goes on, but for a reserved word (R84) and a RESET that loads a
trim outside R113's range: no write ever leaves its register (log 1). -/
def Obligations.InvariantStatesAlwaysStep : Prop :=
  ∀ (s : State) (w : OpWord) (rest : List OpWord), s.Inv → s.words = w :: rest →
    (∃ t, step s = .next t) ∨
    (OpWord.reserved w = true ∧ step s = .refused (.reservedWord w)) ∨
    (w = encodeWord .reset ∧ s.cfg.trimEn = true ∧ s.cfg.trimFits s.loadedTrim = false ∧
      step s = .refused .trimOutOfRange)

/-! ### Conservation, pacing and the divider's pattern -/

/-- Conservation (41_backlog_sleep.md section 4): from a RESET on, the effective backlog is the number of
MATCHes less the number of CONSUMEs, none of them faulting, and consumes lead by at most one. -/
def Obligations.BacklogIsProducedLessConsumed : Prop :=
  ∀ (k : Nat) (s t : State) (l : Ledger), s.Inv → s.effectiveBacklog = 0 →
    runLedger k s ⟨0, 0⟩ = some (t, l) →
    t.effectiveBacklog = (l.produced : Int) - l.consumed ∧ l.consumed ≤ l.produced + 1

/-- The countdown counts consumes (41_backlog_sleep.md section 2): it stands at a whole number of periods
less the consumes since RESET. -/
def Obligations.CountdownCountsConsumes : Prop :=
  ∀ (k : Nat) (s t : State) (l : Ledger), s.Inv → s.persistCnt = 864000 →
    runLedger k s ⟨0, 0⟩ = some (t, l) → (t.persistCnt + l.consumed) % 864000 = 0

/-- A consumer that keeps the protocol of 45_environment_contracts.md section 1 (a) never takes the
underflow fault. -/
def Obligations.ProtocolPreventsUnderflow : Prop :=
  ∀ (k : Nat) (s t : State) (l l' : Ledger), s.owed = false → s.faultCause ≠ 1#2 →
    keepsProtocol k false s = true → runLedger k s l = some (t, l') → t.faultCause ≠ 1#2

/-- The level of interrupts (40_tick_generator.md section 3): fewer TCLKs than a TICK only move the timer,
and a TICK is one MATCH. -/
def Obligations.TickIsOneMatch : Prop :=
  ∀ s : State, s.Inv → s.halted = false →
    (∀ n : Nat, n < s.clocksToMatch →
      clocks n s = .next { s with timerCount := s.timerCount + n }) ∧
    tick s = matchStep { s with timerCount := s.compareValue }

/-- The pattern (40_tick_generator.md section 3): from the start of the pattern, the compare value of
interval k + 1 is `BASE + 1` for the first `LONG_CYCLES` intervals and `BASE` for the rest. -/
def Obligations.PatternOfCompareValues : Prop :=
  ∀ (s : State) (k : Nat), s.Inv → s.cfg.trimEn = false → s.halted = false →
    s.timerCount = 0 → s.cyclePosition = 0 → k < s.cfg.cycles →
    s.effectiveBacklog + k ≤ s.cfg.backlogMax →
    ∃ t, ticks k s = .next t ∧ t.halted = false ∧ t.timerCount = 0 ∧ t.cyclePosition = k ∧
      t.compareValue = if k < s.cfg.longCycles then s.cfg.base + 1 else s.cfg.base

/-- The exact total (40_tick_generator.md section 3): without trim, any window of `CYCLES` intervals,
aligned to the pattern or not, takes exactly `(BASE + 1) * (CYCLES - LONG_CYCLES) + (BASE + 2) *
LONG_CYCLES` timer clocks, banks `CYCLES` ticks, leaves nothing owed and nobody asleep, and every other
element where it was. -/
def Obligations.WindowTakesExactlyThePatternClocks : Prop :=
  ∀ s : State, s.Inv → s.cfg.trimEn = false → s.halted = false → s.timerCount = 0 →
    s.effectiveBacklog + s.cfg.cycles ≤ s.cfg.backlogMax →
    ticks s.cfg.cycles s = clocks s.cfg.patternClocks s ∧
    ∃ t, clocks s.cfg.patternClocks s = .next t ∧
      t.effectiveBacklog = s.effectiveBacklog + s.cfg.cycles ∧ t.sleeping = false ∧
      t.timerCount = 0 ∧ t.cyclePosition = s.cyclePosition ∧
      t.nominalCompare = s.nominalCompare ∧ t.compareValue = s.compareValue ∧
      t.acc = s.acc ∧ t.trimOffset = s.trimOffset ∧ t.owed = false ∧
      t.snap = s.snap ∧ t.persistCnt = s.persistCnt ∧ t.faultCause = s.faultCause ∧
      t.halted = false ∧ t.dbgOut = s.dbgOut

/-- The first `Tick` comes `BASE + 2` TCLKs after RESET and not before (70_reset_and_hazards.md section 1). -/
def Obligations.FirstTickAfterReset : Prop :=
  ∀ s t : State, s.cfg.legal = true → 2 ^ s.cfg.cmpW ≤ trimQuantum → 1 ≤ s.cfg.backlogMax →
    exec .reset s = .next t →
    (∀ n : Nat, n < s.cfg.base + 2 → ∃ u, clocks n t = .next u ∧ u.out.tick = t.out.tick ∧
      u.backlog = 0) ∧
    ∃ u, clocks (s.cfg.base + 2) t = .next u ∧ u.out.tick = true ∧ u.backlog = 1

/-- The steady state (41_backlog_sleep.md section 4): a CTICK with an empty backlog sleeps, and the next
TICK wakes it with the backlog empty again and nothing owed. -/
def Obligations.SteadyStateIsPacedByTicks : Prop :=
  ∀ s : State, s.Inv → s.sleeping = false → s.halted = false → s.backlog = 0 → s.owed = false →
    ∃ t u, ctick s = .next t ∧ t.sleeping = true ∧ t.owed = true ∧ t.snap = 0 ∧
      tick t = .next u ∧ u.sleeping = false ∧ u.owed = false ∧ u.backlog = 0 ∧
      u.halted = false ∧ u.out.tick = true ∧ u.out.wake = true

/-- The sleep-entry race (41_backlog_sleep.md section 4): a MATCH between a CONSUME with `z = 1` and its
SLEEP makes the consumer sleep to a second MATCH, which banks one tick. -/
def Obligations.SleepEntryRaceBanksOneTick : Prop :=
  ∀ s : State, s.Inv → s.sleeping = false → s.halted = false → s.backlog = 0 → s.owed = false →
    1 ≤ s.cfg.backlogMax →
    ∃ a b c d, exec .consume s = .next a ∧ a.snap = 0 ∧ tick a = .next b ∧ b.owed = false ∧
      b.sleeping = false ∧ exec .sleep b = .next c ∧ c.sleeping = true ∧ tick c = .next d ∧
      d.sleeping = false ∧ d.backlog = 1 ∧ d.owed = false ∧ d.halted = false

/-- Trim over consecutive ticks (40_tick_generator.md section 3): over any number of whole intervals with
nothing between the TCLKs, the elapsed timer clocks are the growth of the accumulator plus one quantum for
each correction made. `StepKeepsTheTrimBalance` says it over any words. -/
def Obligations.TrimCorrectsOncePerQuantum : Prop :=
  ∀ (n : Nat) (s t : State) (elapsed corrections : Nat), s.cfg.trimEn = true → s.timerCount = 0 →
    tickTotals n s = some (t, elapsed, corrections) →
    t.acc + 10000000 * corrections = s.acc + elapsed

/-- The pseudo-operations (30_encoding.md section 4): presenting the words of TICK or CTICK, each in a step
of its own (log 4), does what the operations do, outputs (which last one step) apart. That a CTICK whose
CONSUME is not accepted presents no SLEEP is the model's choice (log 10). -/
def Obligations.PseudoOperationsAreTheirWords : Prop :=
  ∀ s : State, s.cfg.legal = true → s.cfg.trimLegal s.trimOffset = true → s.words = [] →
    mapNext State.silent (presentAll (itemWords s .tick) s) = mapNext State.silent (tick s) ∧
    mapNext State.silent (presentAll (itemWords s .ctick) s) = mapNext State.silent (ctick s)

/-- The end of a run (70_reset_and_hazards.md section 5; log 5): once its words are used up, a run under
the invariant has ended well or has failed, and not both. -/
def Obligations.RunEndsWellOrFails : Prop :=
  ∀ s : State, s.Inv → s.words = [] → s.goodEnd = !s.failedEnd

/-! ### One step at a time -/

/-- R43, element by element: RESET completes from every state of a legal configuration, whatever trim that
state holds, if the trim it loads is in range. -/
def Obligations.ResetStepLeavesTheResetElements : Prop :=
  ∀ (s : State) (rest : List OpWord), s.cfg.legal = true → s.cfg.trimLegal s.loadedTrim = true →
    s.words = 0x1#4 :: rest →
    ∃ t, step s = .next t ∧
      t.get .timerCount = 0 ∧ t.get .compareValue = s.cfg.base + 1 ∧
      t.get .nominalCompare = s.cfg.base + 1 ∧ t.get .cyclePosition = 0 ∧ t.get .acc = 0 ∧
      t.get .trimOffset = (if s.cfg.trimEn then sext 16 (memRead s.nv 4 2) else 0) ∧
      t.get .backlog = 0 ∧ t.get .owed = 0 ∧ t.get .sleeping = 0 ∧ t.get .snap = 0 ∧
      t.get .persistCnt = 864000 ∧ t.get .faultCause = 0 ∧ t.get .halted = 0 ∧ t.get .dbgOut = 0

/-- R132, R134, R135: what an accepted CONSUME does to the elements and the events. -/
def Obligations.AcceptedConsumeTakesOneTick : Prop :=
  ∀ s : State, s.ready = true → 1 ≤ s.persistCnt → s.persistCnt ≤ 864000 →
    864000 ≤ 2 ^ s.cfg.pcntW - 1 → s.backlog ≤ s.cfg.backlogMax →
    ∃ t, exec .consume s = .next t ∧
      t.out.tick = s.out.tick ∧ t.out.wake = s.out.wake ∧
      (s.owed = true → t.out.persistReq = s.out.persistReq ∧ t.halted = true ∧
        (s.faultCause = 0#2 → t.faultCause = 1#2) ∧ t.dbgOut = s.cfg.debugLockupEn ∧
        ∀ r : Reg, r ∉ [Reg.faultCause, .halted, .dbgOut] → t.get r = s.get r) ∧
      (s.owed = false →
        t.out.persistReq = (s.out.persistReq || decide (s.persistCnt = 1)) ∧
        t.persistCnt = (if s.persistCnt = 1 then 864000 else s.persistCnt - 1) ∧
        t.snap = s.backlog ∧ t.z = decide (s.backlog = 0) ∧
        (s.backlog = 0 → t.owed = true ∧ t.backlog = 0) ∧
        (0 < s.backlog → t.owed = false ∧ t.backlog + 1 = s.backlog) ∧
        t.effectiveBacklog = s.effectiveBacklog - 1 ∧
        ∀ r : Reg, r ∉ [Reg.persistCnt, .snap, .backlog, .owed] → t.get r = s.get r)

/-- The end of a step's writes (00_scope.md section 5): each element written holds exactly the value
written, none is cut down to its register, and no other element changes (log 1 for the stop otherwise). -/
def Obligations.CommitWritesExactValues : Prop :=
  ∀ (s t : State) (ws : Writes), (ws.map Prod.fst).Nodup → commit s ws = .next t →
    (∀ w ∈ ws, t.get w.1 = w.2) ∧ ∀ r : Reg, r ∉ ws.map Prod.fst → t.get r = s.get r

/-- Conservation, step by step (41_backlog_sleep.md section 4): every step of any words keeps the equation
between the effective backlog and the ledger, and consumes never lead by more than one. -/
def Obligations.StepKeepsTheLedger : Prop :=
  ∀ (s t : State) (l : Ledger), s.effectiveBacklog = (l.produced : Int) - l.consumed →
    step s = .next t →
    t.effectiveBacklog = ((l.after s t).produced : Int) - (l.after s t).consumed ∧
      (l.after s t).consumed ≤ (l.after s t).produced + 1

/-- The protocol, step by step (45_environment_contracts.md section 1 (a)): if a unit owed while awake
means that the main context must wait, every step that presents no CONSUME against that keeps this so, and
keeps the cause from being an underflow. -/
def Obligations.StepKeepsTheProtocol : Prop :=
  ∀ (s t : State) (waiting : Bool),
    (s.owed = true → s.sleeping = false → waiting = true) → s.faultCause ≠ 1#2 →
    ¬ (waiting = true ∧ s.nextInstr = some .consume ∧ s.ready = true) → step s = .next t →
    (t.owed = true → t.sleeping = false → mustWait waiting s t = true) ∧ t.faultCause ≠ 1#2

/-- Trim, step by step (40_tick_generator.md section 3): every step of any words keeps the balance between
the timer clocks counted, the accumulator, the timer and the corrections made. -/
def Obligations.StepKeepsTheTrimBalance : Prop :=
  ∀ (s t : State) (l : TrimLedger), s.cfg.trimEn = true → l.balanced s → step s = .next t →
    (l.after s t).balanced t

/-- The MAIN operations left blocked (70_reset_and_hazards.md section 5): after a step, an operation waits
exactly if its word was blocked in that step, or it waited before and that step did not accept it. A good
end asks that none waits. That presenting it once more adds none is log 5's. -/
def Obligations.BlockedOperationsWaitToBeAccepted : Prop :=
  (∀ (s t : State) (i : Instr), step s = .next t →
    (i ∈ t.mainWaiting ↔ (s.nextInstr = some i ∧ t.out.blocked = true) ∨
      (i ∈ s.mainWaiting ∧ ¬ (s.nextInstr = some i ∧ i.agent = .main ∧ s.ready = true)))) ∧
    ∀ s : State, s.goodEnd = true ↔
      s.words = [] ∧ s.faultCause = 0#2 ∧ ∀ i : Instr, i ∉ s.mainWaiting
end

