-- ==== Sys2Proof/Laws/Memory.lean ====
section
/-! SUPPORT. The laws of the non-volatile space: read after write, and every write keeps the
canonical form, in which equal contents are equal lists. -/

namespace Sys2Proof.Machine

@[simp] theorem Memory.read_nil (a : Nat) : Memory.read [] a = nvUnlisted := rfl

theorem Memory.read_below {lo : Nat} : ∀ {m : Memory}, Memory.wfAbove (some lo) m = true →
    ∀ {a : Nat}, a ≤ lo → Memory.read m a = nvUnlisted
  | [], _, _, _ => rfl
  | (k, b) :: m, h, a, ha => by
    simp only [Memory.wfAbove, Bool.and_eq_true, decide_eq_true_eq] at h
    have hk : k ≠ a := by omega
    simp only [Memory.read, hk, if_false]
    exact Memory.read_below h.2 (by omega)

theorem Memory.read_write_same (a : Nat) (v : Byte) : ∀ {lo : Option Nat} {m : Memory},
    Memory.wfAbove lo m = true → Memory.read (Memory.write m a v) a = v
  | _, [], _ => by by_cases hv : v = nvUnlisted <;> simp [Memory.write, Memory.read, hv]
  | _, (k, b) :: m, h => by
    simp only [Memory.wfAbove, Bool.and_eq_true, decide_eq_true_eq] at h
    have hm := h.2
    simp only [Memory.write]
    split_ifs with h1 hv h2 hv
    · have hk : k ≠ a := by omega
      rw [hv, Memory.read, if_neg hk]
      exact Memory.read_below hm (by omega)
    · simp [Memory.read]
    · subst h2; rw [hv]; exact Memory.read_below hm (le_refl _)
    · simp [Memory.read]
    · have hk : k ≠ a := fun e => h2 e.symm
      rw [Memory.read, if_neg hk]
      exact Memory.read_write_same a v hm

theorem Memory.read_write_other {a x : Nat} (v : Byte) (hx : x ≠ a) : ∀ m : Memory,
    Memory.read (Memory.write m a v) x = Memory.read m x
  | [] => by by_cases hv : v = nvUnlisted <;> simp [Memory.write, Memory.read, hv, hx.symm]
  | (k, b) :: m => by
    have ih := Memory.read_write_other v hx m
    simp only [Memory.write]
    split_ifs with h1 hv h2 hv
    · rfl
    · simp [Memory.read, hx.symm]
    · subst h2; simp [Memory.read, hx.symm]
    · subst h2; simp [Memory.read, hx.symm]
    · simp [Memory.read, ih]

theorem Memory.wfAbove_lower {lo hi : Nat} (h : lo ≤ hi) : ∀ {m : Memory},
    Memory.wfAbove (some hi) m = true → Memory.wfAbove (some lo) m = true
  | [], _ => rfl
  | (k, b) :: m, hm => by
    simp only [Memory.wfAbove, Bool.and_eq_true, decide_eq_true_eq] at hm ⊢
    exact ⟨⟨by omega, hm.1.2⟩, hm.2⟩

theorem Memory.wfAbove_write (a : Nat) (v : Byte) : ∀ {lo : Option Nat} {m : Memory},
    Memory.wfAbove lo m = true → (∀ l, lo = some l → l < a) →
    Memory.wfAbove lo (Memory.write m a v) = true
  | lo, [], _, ha => by
    by_cases hv : v = nvUnlisted
    · simp [Memory.write, hv, Memory.wfAbove]
    · cases lo with
      | none => simp [Memory.write, hv, Memory.wfAbove]
      | some l => simp [Memory.write, hv, Memory.wfAbove, ha l rfl]
  | lo, (k, b) :: m, h, ha => by
    have h0 := h
    simp only [Memory.wfAbove, Bool.and_eq_true, decide_eq_true_eq] at h
    obtain ⟨⟨hlo, hb⟩, hm⟩ := h
    simp only [Memory.write]
    split_ifs with h1 hv h2 hv
    · exact h0
    · cases lo with
      | none => simp [Memory.wfAbove, hv, h1, hb, hm]
      | some l => simp [Memory.wfAbove, hv, h1, hb, hm, ha l rfl]
    · cases lo with
      | none =>
        cases m with
        | nil => rfl
        | cons p m' =>
          simp only [Memory.wfAbove, Bool.and_eq_true, decide_eq_true_eq] at hm ⊢
          exact ⟨⟨trivial, hm.1.2⟩, hm.2⟩
      | some l =>
        exact Memory.wfAbove_lower (by have := ha l rfl; omega) hm
    · subst h2
      cases lo with
      | none => simp [Memory.wfAbove, hv, hm]
      | some l => simp [Memory.wfAbove, hv, hm, ha l rfl]
    · have hk : k < a := by omega
      have ih := Memory.wfAbove_write a v hm (fun l hl => by cases hl; exact hk)
      simp only [Memory.wfAbove, Bool.and_eq_true, decide_eq_true_eq]
      exact ⟨⟨hlo, hb⟩, ih⟩

/-- A byte stored by the environment keeps the canonical form. -/
theorem Memory.wf_write {m : Memory} (h : Memory.wf m = true) (a : Nat) (v : Byte) :
    Memory.wf (Memory.write m a v) = true :=
  Memory.wfAbove_write a v h (fun _ hl => by cases hl)

/-- `MemRead` depends only on the bytes it reads (R62). -/
theorem memRead_congr {m m' : Memory} (addr : Nat) : ∀ n : Nat,
    (∀ i, i < n → Memory.read m (addr + i) = Memory.read m' (addr + i)) →
    memRead m addr n = memRead m' addr n
  | 0, _ => rfl
  | n + 1, h => by
    rw [memRead, memRead, memRead_congr addr n (fun i hi => h i (by omega)), h n (by omega)]

end Sys2Proof.Machine
end

