-- ==== Sys2Proof/Laws/State.lean ====
section
/-! SUPPORT. What each update of the state does to each field: no proof need unfold a record update. -/

namespace Sys2Proof.Machine

section Set

variable (s : State) (v : Int)

@[simp] theorem State.set_timerCount : s.set .timerCount v = { s with timerCount := v.toNat } := rfl
@[simp] theorem State.set_compareValue : s.set .compareValue v = { s with compareValue := v.toNat } := rfl
@[simp] theorem State.set_nominalCompare : s.set .nominalCompare v = { s with nominalCompare := v.toNat } := rfl
@[simp] theorem State.set_cyclePosition : s.set .cyclePosition v = { s with cyclePosition := v.toNat } := rfl
@[simp] theorem State.set_acc : s.set .acc v = { s with acc := v.toNat } := rfl
@[simp] theorem State.set_trimOffset : s.set .trimOffset v = { s with trimOffset := v } := rfl
@[simp] theorem State.set_backlog : s.set .backlog v = { s with backlog := v.toNat } := rfl
@[simp] theorem State.set_owed : s.set .owed v = { s with owed := decide (v = 1) } := rfl
@[simp] theorem State.set_sleeping : s.set .sleeping v = { s with sleeping := decide (v = 1) } := rfl
@[simp] theorem State.set_snap : s.set .snap v = { s with snap := v.toNat } := rfl
@[simp] theorem State.set_persistCnt : s.set .persistCnt v = { s with persistCnt := v.toNat } := rfl
@[simp] theorem State.set_faultCause : s.set .faultCause v = { s with faultCause := BitVec.ofNat 2 v.toNat } := rfl
@[simp] theorem State.set_halted : s.set .halted v = { s with halted := decide (v = 1) } := rfl
@[simp] theorem State.set_dbgOut : s.set .dbgOut v = { s with dbgOut := decide (v = 1) } := rfl

end Set

@[simp] theorem State.get_timerCount (s : State) : s.get .timerCount = (s.timerCount : Int) := rfl
@[simp] theorem State.get_compareValue (s : State) : s.get .compareValue = (s.compareValue : Int) := rfl
@[simp] theorem State.get_nominalCompare (s : State) : s.get .nominalCompare = (s.nominalCompare : Int) := rfl
@[simp] theorem State.get_cyclePosition (s : State) : s.get .cyclePosition = (s.cyclePosition : Int) := rfl
@[simp] theorem State.get_acc (s : State) : s.get .acc = (s.acc : Int) := rfl
@[simp] theorem State.get_trimOffset (s : State) : s.get .trimOffset = s.trimOffset := rfl
@[simp] theorem State.get_backlog (s : State) : s.get .backlog = (s.backlog : Int) := rfl
@[simp] theorem State.get_owed (s : State) : s.get .owed = s.owed.toInt := rfl
@[simp] theorem State.get_sleeping (s : State) : s.get .sleeping = s.sleeping.toInt := rfl
@[simp] theorem State.get_snap (s : State) : s.get .snap = (s.snap : Int) := rfl
@[simp] theorem State.get_persistCnt (s : State) : s.get .persistCnt = (s.persistCnt : Int) := rfl
@[simp] theorem State.get_faultCause (s : State) : s.get .faultCause = (s.faultCause.toNat : Int) := rfl
@[simp] theorem State.get_halted (s : State) : s.get .halted = s.halted.toInt := rfl
@[simp] theorem State.get_dbgOut (s : State) : s.get .dbgOut = s.dbgOut.toInt := rfl

@[simp] theorem State.set_keeps_cfg (s : State) (r : Reg) (v : Int) : (s.set r v).cfg = s.cfg := by
  cases r <;> rfl
@[simp] theorem State.set_keeps_nv (s : State) (r : Reg) (v : Int) : (s.set r v).nv = s.nv := by
  cases r <;> rfl
@[simp] theorem State.set_keeps_words (s : State) (r : Reg) (v : Int) : (s.set r v).words = s.words := by
  cases r <;> rfl
@[simp] theorem State.set_keeps_mainWaiting (s : State) (r : Reg) (v : Int) : (s.set r v).mainWaiting = s.mainWaiting := by
  cases r <;> rfl
@[simp] theorem State.set_keeps_out (s : State) (r : Reg) (v : Int) : (s.set r v).out = s.out := by
  cases r <;> rfl

@[simp] theorem State.emitTick_timerCount (s : State) : s.emitTick.timerCount = s.timerCount := rfl
@[simp] theorem State.emitTick_compareValue (s : State) : s.emitTick.compareValue = s.compareValue := rfl
@[simp] theorem State.emitTick_nominalCompare (s : State) : s.emitTick.nominalCompare = s.nominalCompare := rfl
@[simp] theorem State.emitTick_cyclePosition (s : State) : s.emitTick.cyclePosition = s.cyclePosition := rfl
@[simp] theorem State.emitTick_acc (s : State) : s.emitTick.acc = s.acc := rfl
@[simp] theorem State.emitTick_trimOffset (s : State) : s.emitTick.trimOffset = s.trimOffset := rfl
@[simp] theorem State.emitTick_backlog (s : State) : s.emitTick.backlog = s.backlog := rfl
@[simp] theorem State.emitTick_owed (s : State) : s.emitTick.owed = s.owed := rfl
@[simp] theorem State.emitTick_sleeping (s : State) : s.emitTick.sleeping = s.sleeping := rfl
@[simp] theorem State.emitTick_snap (s : State) : s.emitTick.snap = s.snap := rfl
@[simp] theorem State.emitTick_persistCnt (s : State) : s.emitTick.persistCnt = s.persistCnt := rfl
@[simp] theorem State.emitTick_faultCause (s : State) : s.emitTick.faultCause = s.faultCause := rfl
@[simp] theorem State.emitTick_halted (s : State) : s.emitTick.halted = s.halted := rfl
@[simp] theorem State.emitTick_dbgOut (s : State) : s.emitTick.dbgOut = s.dbgOut := rfl
@[simp] theorem State.emitTick_cfg (s : State) : s.emitTick.cfg = s.cfg := rfl
@[simp] theorem State.emitTick_nv (s : State) : s.emitTick.nv = s.nv := rfl
@[simp] theorem State.emitTick_words (s : State) : s.emitTick.words = s.words := rfl
@[simp] theorem State.emitTick_mainWaiting (s : State) : s.emitTick.mainWaiting = s.mainWaiting := rfl
@[simp] theorem State.emitTick_out (s : State) : s.emitTick.out = { s.out with tick := true } := rfl
@[simp] theorem State.emitTick_get (s : State) (r : Reg) : s.emitTick.get r = s.get r := by cases r <;> rfl

@[simp] theorem State.emitWake_timerCount (s : State) : s.emitWake.timerCount = s.timerCount := rfl
@[simp] theorem State.emitWake_compareValue (s : State) : s.emitWake.compareValue = s.compareValue := rfl
@[simp] theorem State.emitWake_nominalCompare (s : State) : s.emitWake.nominalCompare = s.nominalCompare := rfl
@[simp] theorem State.emitWake_cyclePosition (s : State) : s.emitWake.cyclePosition = s.cyclePosition := rfl
@[simp] theorem State.emitWake_acc (s : State) : s.emitWake.acc = s.acc := rfl
@[simp] theorem State.emitWake_trimOffset (s : State) : s.emitWake.trimOffset = s.trimOffset := rfl
@[simp] theorem State.emitWake_backlog (s : State) : s.emitWake.backlog = s.backlog := rfl
@[simp] theorem State.emitWake_owed (s : State) : s.emitWake.owed = s.owed := rfl
@[simp] theorem State.emitWake_sleeping (s : State) : s.emitWake.sleeping = s.sleeping := rfl
@[simp] theorem State.emitWake_snap (s : State) : s.emitWake.snap = s.snap := rfl
@[simp] theorem State.emitWake_persistCnt (s : State) : s.emitWake.persistCnt = s.persistCnt := rfl
@[simp] theorem State.emitWake_faultCause (s : State) : s.emitWake.faultCause = s.faultCause := rfl
@[simp] theorem State.emitWake_halted (s : State) : s.emitWake.halted = s.halted := rfl
@[simp] theorem State.emitWake_dbgOut (s : State) : s.emitWake.dbgOut = s.dbgOut := rfl
@[simp] theorem State.emitWake_cfg (s : State) : s.emitWake.cfg = s.cfg := rfl
@[simp] theorem State.emitWake_nv (s : State) : s.emitWake.nv = s.nv := rfl
@[simp] theorem State.emitWake_words (s : State) : s.emitWake.words = s.words := rfl
@[simp] theorem State.emitWake_mainWaiting (s : State) : s.emitWake.mainWaiting = s.mainWaiting := rfl
@[simp] theorem State.emitWake_out (s : State) : s.emitWake.out = { s.out with wake := true } := rfl
@[simp] theorem State.emitWake_get (s : State) (r : Reg) : s.emitWake.get r = s.get r := by cases r <;> rfl

@[simp] theorem State.emitPersistReq_timerCount (s : State) : s.emitPersistReq.timerCount = s.timerCount := rfl
@[simp] theorem State.emitPersistReq_compareValue (s : State) : s.emitPersistReq.compareValue = s.compareValue := rfl
@[simp] theorem State.emitPersistReq_nominalCompare (s : State) : s.emitPersistReq.nominalCompare = s.nominalCompare := rfl
@[simp] theorem State.emitPersistReq_cyclePosition (s : State) : s.emitPersistReq.cyclePosition = s.cyclePosition := rfl
@[simp] theorem State.emitPersistReq_acc (s : State) : s.emitPersistReq.acc = s.acc := rfl
@[simp] theorem State.emitPersistReq_trimOffset (s : State) : s.emitPersistReq.trimOffset = s.trimOffset := rfl
@[simp] theorem State.emitPersistReq_backlog (s : State) : s.emitPersistReq.backlog = s.backlog := rfl
@[simp] theorem State.emitPersistReq_owed (s : State) : s.emitPersistReq.owed = s.owed := rfl
@[simp] theorem State.emitPersistReq_sleeping (s : State) : s.emitPersistReq.sleeping = s.sleeping := rfl
@[simp] theorem State.emitPersistReq_snap (s : State) : s.emitPersistReq.snap = s.snap := rfl
@[simp] theorem State.emitPersistReq_persistCnt (s : State) : s.emitPersistReq.persistCnt = s.persistCnt := rfl
@[simp] theorem State.emitPersistReq_faultCause (s : State) : s.emitPersistReq.faultCause = s.faultCause := rfl
@[simp] theorem State.emitPersistReq_halted (s : State) : s.emitPersistReq.halted = s.halted := rfl
@[simp] theorem State.emitPersistReq_dbgOut (s : State) : s.emitPersistReq.dbgOut = s.dbgOut := rfl
@[simp] theorem State.emitPersistReq_cfg (s : State) : s.emitPersistReq.cfg = s.cfg := rfl
@[simp] theorem State.emitPersistReq_nv (s : State) : s.emitPersistReq.nv = s.nv := rfl
@[simp] theorem State.emitPersistReq_words (s : State) : s.emitPersistReq.words = s.words := rfl
@[simp] theorem State.emitPersistReq_mainWaiting (s : State) : s.emitPersistReq.mainWaiting = s.mainWaiting := rfl
@[simp] theorem State.emitPersistReq_out (s : State) : s.emitPersistReq.out = { s.out with persistReq := true } := rfl
@[simp] theorem State.emitPersistReq_get (s : State) (r : Reg) : s.emitPersistReq.get r = s.get r := by cases r <;> rfl

@[simp] theorem State.driveNv_timerCount (s : State) (as : List NvAddr) : (s.driveNv as).timerCount = s.timerCount := rfl
@[simp] theorem State.driveNv_compareValue (s : State) (as : List NvAddr) : (s.driveNv as).compareValue = s.compareValue := rfl
@[simp] theorem State.driveNv_nominalCompare (s : State) (as : List NvAddr) : (s.driveNv as).nominalCompare = s.nominalCompare := rfl
@[simp] theorem State.driveNv_cyclePosition (s : State) (as : List NvAddr) : (s.driveNv as).cyclePosition = s.cyclePosition := rfl
@[simp] theorem State.driveNv_acc (s : State) (as : List NvAddr) : (s.driveNv as).acc = s.acc := rfl
@[simp] theorem State.driveNv_trimOffset (s : State) (as : List NvAddr) : (s.driveNv as).trimOffset = s.trimOffset := rfl
@[simp] theorem State.driveNv_backlog (s : State) (as : List NvAddr) : (s.driveNv as).backlog = s.backlog := rfl
@[simp] theorem State.driveNv_owed (s : State) (as : List NvAddr) : (s.driveNv as).owed = s.owed := rfl
@[simp] theorem State.driveNv_sleeping (s : State) (as : List NvAddr) : (s.driveNv as).sleeping = s.sleeping := rfl
@[simp] theorem State.driveNv_snap (s : State) (as : List NvAddr) : (s.driveNv as).snap = s.snap := rfl
@[simp] theorem State.driveNv_persistCnt (s : State) (as : List NvAddr) : (s.driveNv as).persistCnt = s.persistCnt := rfl
@[simp] theorem State.driveNv_faultCause (s : State) (as : List NvAddr) : (s.driveNv as).faultCause = s.faultCause := rfl
@[simp] theorem State.driveNv_halted (s : State) (as : List NvAddr) : (s.driveNv as).halted = s.halted := rfl
@[simp] theorem State.driveNv_dbgOut (s : State) (as : List NvAddr) : (s.driveNv as).dbgOut = s.dbgOut := rfl
@[simp] theorem State.driveNv_cfg (s : State) (as : List NvAddr) : (s.driveNv as).cfg = s.cfg := rfl
@[simp] theorem State.driveNv_nv (s : State) (as : List NvAddr) : (s.driveNv as).nv = s.nv := rfl
@[simp] theorem State.driveNv_words (s : State) (as : List NvAddr) : (s.driveNv as).words = s.words := rfl
@[simp] theorem State.driveNv_mainWaiting (s : State) (as : List NvAddr) : (s.driveNv as).mainWaiting = s.mainWaiting := rfl
@[simp] theorem State.driveNv_out (s : State) (as : List NvAddr) : (s.driveNv as).out = { s.out with nvAddr := as } := rfl
@[simp] theorem State.driveNv_get (s : State) (as : List NvAddr) (r : Reg) : (s.driveNv as).get r = s.get r := by cases r <;> rfl

@[simp] theorem State.block_timerCount (s : State) (i : Instr) : (s.block i).timerCount = s.timerCount := rfl
@[simp] theorem State.block_compareValue (s : State) (i : Instr) : (s.block i).compareValue = s.compareValue := rfl
@[simp] theorem State.block_nominalCompare (s : State) (i : Instr) : (s.block i).nominalCompare = s.nominalCompare := rfl
@[simp] theorem State.block_cyclePosition (s : State) (i : Instr) : (s.block i).cyclePosition = s.cyclePosition := rfl
@[simp] theorem State.block_acc (s : State) (i : Instr) : (s.block i).acc = s.acc := rfl
@[simp] theorem State.block_trimOffset (s : State) (i : Instr) : (s.block i).trimOffset = s.trimOffset := rfl
@[simp] theorem State.block_backlog (s : State) (i : Instr) : (s.block i).backlog = s.backlog := rfl
@[simp] theorem State.block_owed (s : State) (i : Instr) : (s.block i).owed = s.owed := rfl
@[simp] theorem State.block_sleeping (s : State) (i : Instr) : (s.block i).sleeping = s.sleeping := rfl
@[simp] theorem State.block_snap (s : State) (i : Instr) : (s.block i).snap = s.snap := rfl
@[simp] theorem State.block_persistCnt (s : State) (i : Instr) : (s.block i).persistCnt = s.persistCnt := rfl
@[simp] theorem State.block_faultCause (s : State) (i : Instr) : (s.block i).faultCause = s.faultCause := rfl
@[simp] theorem State.block_halted (s : State) (i : Instr) : (s.block i).halted = s.halted := rfl
@[simp] theorem State.block_dbgOut (s : State) (i : Instr) : (s.block i).dbgOut = s.dbgOut := rfl
@[simp] theorem State.block_cfg (s : State) (i : Instr) : (s.block i).cfg = s.cfg := rfl
@[simp] theorem State.block_nv (s : State) (i : Instr) : (s.block i).nv = s.nv := rfl
@[simp] theorem State.block_words (s : State) (i : Instr) : (s.block i).words = s.words := rfl
@[simp] theorem State.block_mainWaiting (s : State) (i : Instr) : (s.block i).mainWaiting =
    if i ∈ s.mainWaiting then s.mainWaiting else s.mainWaiting ++ [i] := rfl
@[simp] theorem State.block_out (s : State) (i : Instr) : (s.block i).out = { s.out with blocked := true } := rfl
@[simp] theorem State.block_get (s : State) (i : Instr) (r : Reg) : (s.block i).get r = s.get r := by cases r <;> rfl

@[simp] theorem State.accept_timerCount (s : State) (i : Instr) : (s.accept i).timerCount = s.timerCount := rfl
@[simp] theorem State.accept_compareValue (s : State) (i : Instr) : (s.accept i).compareValue = s.compareValue := rfl
@[simp] theorem State.accept_nominalCompare (s : State) (i : Instr) : (s.accept i).nominalCompare = s.nominalCompare := rfl
@[simp] theorem State.accept_cyclePosition (s : State) (i : Instr) : (s.accept i).cyclePosition = s.cyclePosition := rfl
@[simp] theorem State.accept_acc (s : State) (i : Instr) : (s.accept i).acc = s.acc := rfl
@[simp] theorem State.accept_trimOffset (s : State) (i : Instr) : (s.accept i).trimOffset = s.trimOffset := rfl
@[simp] theorem State.accept_backlog (s : State) (i : Instr) : (s.accept i).backlog = s.backlog := rfl
@[simp] theorem State.accept_owed (s : State) (i : Instr) : (s.accept i).owed = s.owed := rfl
@[simp] theorem State.accept_sleeping (s : State) (i : Instr) : (s.accept i).sleeping = s.sleeping := rfl
@[simp] theorem State.accept_snap (s : State) (i : Instr) : (s.accept i).snap = s.snap := rfl
@[simp] theorem State.accept_persistCnt (s : State) (i : Instr) : (s.accept i).persistCnt = s.persistCnt := rfl
@[simp] theorem State.accept_faultCause (s : State) (i : Instr) : (s.accept i).faultCause = s.faultCause := rfl
@[simp] theorem State.accept_halted (s : State) (i : Instr) : (s.accept i).halted = s.halted := rfl
@[simp] theorem State.accept_dbgOut (s : State) (i : Instr) : (s.accept i).dbgOut = s.dbgOut := rfl
@[simp] theorem State.accept_cfg (s : State) (i : Instr) : (s.accept i).cfg = s.cfg := rfl
@[simp] theorem State.accept_nv (s : State) (i : Instr) : (s.accept i).nv = s.nv := rfl
@[simp] theorem State.accept_words (s : State) (i : Instr) : (s.accept i).words = s.words := rfl
@[simp] theorem State.accept_mainWaiting (s : State) (i : Instr) : (s.accept i).mainWaiting =
    s.mainWaiting.filter (fun j => decide (j ≠ i)) := rfl
@[simp] theorem State.accept_out (s : State) (i : Instr) : (s.accept i).out = s.out := rfl
@[simp] theorem State.accept_get (s : State) (i : Instr) (r : Reg) : (s.accept i).get r = s.get r := by cases r <;> rfl

@[simp] theorem State.present_timerCount (s : State) (rest : List OpWord) : (s.present rest).timerCount = s.timerCount := rfl
@[simp] theorem State.present_compareValue (s : State) (rest : List OpWord) : (s.present rest).compareValue = s.compareValue := rfl
@[simp] theorem State.present_nominalCompare (s : State) (rest : List OpWord) : (s.present rest).nominalCompare = s.nominalCompare := rfl
@[simp] theorem State.present_cyclePosition (s : State) (rest : List OpWord) : (s.present rest).cyclePosition = s.cyclePosition := rfl
@[simp] theorem State.present_acc (s : State) (rest : List OpWord) : (s.present rest).acc = s.acc := rfl
@[simp] theorem State.present_trimOffset (s : State) (rest : List OpWord) : (s.present rest).trimOffset = s.trimOffset := rfl
@[simp] theorem State.present_backlog (s : State) (rest : List OpWord) : (s.present rest).backlog = s.backlog := rfl
@[simp] theorem State.present_owed (s : State) (rest : List OpWord) : (s.present rest).owed = s.owed := rfl
@[simp] theorem State.present_sleeping (s : State) (rest : List OpWord) : (s.present rest).sleeping = s.sleeping := rfl
@[simp] theorem State.present_snap (s : State) (rest : List OpWord) : (s.present rest).snap = s.snap := rfl
@[simp] theorem State.present_persistCnt (s : State) (rest : List OpWord) : (s.present rest).persistCnt = s.persistCnt := rfl
@[simp] theorem State.present_faultCause (s : State) (rest : List OpWord) : (s.present rest).faultCause = s.faultCause := rfl
@[simp] theorem State.present_halted (s : State) (rest : List OpWord) : (s.present rest).halted = s.halted := rfl
@[simp] theorem State.present_dbgOut (s : State) (rest : List OpWord) : (s.present rest).dbgOut = s.dbgOut := rfl
@[simp] theorem State.present_cfg (s : State) (rest : List OpWord) : (s.present rest).cfg = s.cfg := rfl
@[simp] theorem State.present_nv (s : State) (rest : List OpWord) : (s.present rest).nv = s.nv := rfl
@[simp] theorem State.present_words (s : State) (rest : List OpWord) : (s.present rest).words = rest := rfl
@[simp] theorem State.present_mainWaiting (s : State) (rest : List OpWord) : (s.present rest).mainWaiting = s.mainWaiting := rfl
@[simp] theorem State.present_out (s : State) (rest : List OpWord) : (s.present rest).out = Outputs.quiet := rfl
@[simp] theorem State.present_get (s : State) (rest : List OpWord) (r : Reg) : (s.present rest).get r = s.get r := by cases r <;> rfl

/-- Setting one element leaves the others as they are. -/
theorem State.get_set_of_ne {s : State} {r q : Reg} (h : q ≠ r) (v : Int) :
    (s.set r v).get q = s.get q := by
  cases r <;> cases q <;> first | rfl | exact absurd rfl h

/-- An element set to a value of its range reads as that value (R9). -/
theorem State.get_set_of_fits {s : State} {c : Config} {r : Reg} {v : Int} (h : r.fits c v = true) :
    (s.set r v).get r = v := by
  cases r
  case trimOffset => rfl
  case owed | sleeping | halted | dbgOut =>
    simp only [Reg.fits, Reg.signed, Reg.width] at h
    obtain rfl | rfl : v = 0 ∨ v = 1 := by norm_num at h; omega
    all_goals rfl
  case faultCause =>
    simp only [Reg.fits, Reg.signed, Reg.width] at h
    norm_num at h
    simp only [State.set, State.get, BitVec.toNat_ofNat]
    omega
  all_goals
    simp only [Reg.fits, Reg.signed, Bool.and_eq_true, decide_eq_true_eq, Bool.false_eq_true,
      if_false] at h
    simp only [State.set, State.get]
    exact Int.toNat_of_nonneg h.1

end Sys2Proof.Machine
end

