-- ==== Sys2Proof/Laws/Ops.lean ====
section
/-! SUPPORT. What each shared operation can do, said once: `commit`, fault entry, acceptance, and the
composition of steps. -/

namespace Sys2Proof.Machine

@[simp] theorem State.putAll_nil (s : State) : s.putAll [] = s := rfl

@[simp] theorem State.putAll_cons (s : State) (r : Reg) (v : Int) (ws : Writes) :
    s.putAll ((r, v) :: ws) = (s.set r v).putAll ws := rfl

theorem State.putAll_keeps (s : State) (ws : Writes) :
    (s.putAll ws).cfg = s.cfg ∧ (s.putAll ws).nv = s.nv ∧ (s.putAll ws).words = s.words ∧
      (s.putAll ws).mainWaiting = s.mainWaiting ∧ (s.putAll ws).out = s.out := by
  induction ws generalizing s with
  | nil => exact ⟨rfl, rfl, rfl, rfl, rfl⟩
  | cons w ws ih => obtain ⟨r, v⟩ := w; simpa using ih (s.set r v)

@[simp] theorem State.putAll_cfg (s : State) (ws : Writes) : (s.putAll ws).cfg = s.cfg :=
  (s.putAll_keeps ws).1

@[simp] theorem State.putAll_nv (s : State) (ws : Writes) : (s.putAll ws).nv = s.nv :=
  (s.putAll_keeps ws).2.1

@[simp] theorem State.putAll_words (s : State) (ws : Writes) : (s.putAll ws).words = s.words :=
  (s.putAll_keeps ws).2.2.1

@[simp] theorem State.putAll_mainWaiting (s : State) (ws : Writes) : (s.putAll ws).mainWaiting = s.mainWaiting :=
  (s.putAll_keeps ws).2.2.2.1

@[simp] theorem State.putAll_out (s : State) (ws : Writes) : (s.putAll ws).out = s.out :=
  (s.putAll_keeps ws).2.2.2.2

/-- An element that no write names keeps its value. -/
theorem State.putAll_get_of_unwritten {s : State} {ws : Writes} {r : Reg}
    (h : ∀ w ∈ ws, w.1 ≠ r) : (s.putAll ws).get r = s.get r := by
  induction ws generalizing s with
  | nil => rfl
  | cons w ws ih =>
    obtain ⟨q, v⟩ := w
    rw [State.putAll_cons, ih (fun w hw => h w (List.mem_cons_of_mem _ hw)),
      State.get_set_of_ne (h _ List.mem_cons_self).symm]

theorem firstMisfit_eq_none {c : Config} {ws : Writes} :
    firstMisfit c ws = none ↔ ∀ w ∈ ws, w.1.fits c w.2 = true := by
  simp [firstMisfit]

theorem firstMisfit_mem {c : Config} {ws : Writes} {r : Reg} (h : firstMisfit c ws = some r) :
    ∃ v, (r, v) ∈ ws ∧ r.fits c v = false := by
  simp only [firstMisfit, Option.map_eq_some_iff] at h
  obtain ⟨w, hw, rfl⟩ := h
  exact ⟨w.2, List.mem_of_find?_eq_some hw, by simpa using List.find?_some hw⟩

/-- Everything `commit` can do (R9, R10): all writes in range and made, or the stop of log 1. -/
theorem commit_cases (s : State) (ws : Writes) :
    (commit s ws = .next (s.putAll ws) ∧ ∀ w ∈ ws, w.1.fits s.cfg w.2 = true) ∨
      ∃ r v, commit s ws = .fault (.registerRange r) ∧ (r, v) ∈ ws ∧ r.fits s.cfg v = false := by
  unfold commit
  cases h : firstMisfit s.cfg ws with
  | none => exact .inl ⟨rfl, firstMisfit_eq_none.mp h⟩
  | some r =>
    obtain ⟨v, hv, hf⟩ := firstMisfit_mem h
    exact .inr ⟨r, v, rfl, hv, hf⟩

theorem commit_of_fits {s : State} {ws : Writes} (h : ∀ w ∈ ws, w.1.fits s.cfg w.2 = true) :
    commit s ws = .next (s.putAll ws) := by
  unfold commit
  rw [firstMisfit_eq_none.mpr h]

theorem commit_next {s t : State} {ws : Writes} (h : commit s ws = .next t) :
    t = s.putAll ws ∧ ∀ w ∈ ws, w.1.fits s.cfg w.2 = true := by
  rcases commit_cases s ws with ⟨h1, h2⟩ | ⟨r, v, h1, -⟩
  · rw [h1] at h; cases h; exact ⟨rfl, h2⟩
  · rw [h1] at h; cases h

theorem commit_not_refused {s : State} {ws : Writes} {r : Refusal} : commit s ws ≠ .refused r := by
  rcases commit_cases s ws with ⟨h, -⟩ | ⟨_, _, h, -⟩ <;> simp [h]

@[simp] theorem Reg.fits_one_bit {c : Config} (b : Bool) :
    Reg.owed.fits c b.toInt = true ∧ Reg.sleeping.fits c b.toInt = true ∧
      Reg.halted.fits c b.toInt = true ∧ Reg.dbgOut.fits c b.toInt = true := by
  cases b <;> simp [Reg.fits, Reg.signed, Reg.width]

@[simp] theorem Bool.toInt_eq_one (b : Bool) : b.toInt = 1 ↔ b = true := by cases b <;> simp

/-- Everything fault entry can do: its writes are always in range (R193). -/
theorem raiseFault_eq (s : State) (f : FaultCause) : raiseFault f s = .next
    (s.putAll ((if s.faultCause = 0#2 then [(.faultCause, f.code)] else []) ++
      [(.halted, 1), (.dbgOut, s.cfg.debugLockupEn.toInt)])) := by
  refine commit_of_fits ?_
  intro w hw
  have hd := (Reg.fits_one_bit (c := s.cfg) s.cfg.debugLockupEn).2.2.2
  have hh := (Reg.fits_one_bit (c := s.cfg) true).2.2.1
  have hf : Reg.faultCause.fits s.cfg f.code = true := by
    cases f <;> simp [Reg.fits, Reg.signed, Reg.width, FaultCause.code]
  by_cases h0 : s.faultCause = 0#2 <;> simp only [h0, if_true, if_false, List.nil_append,
    List.cons_append, List.mem_cons, List.not_mem_nil, or_false] at hw
  · rcases hw with rfl | rfl | rfl
    exacts [hf, hh, hd]
  · rcases hw with rfl | rfl
    exacts [hh, hd]

/-- What waits after a block: what waited, and the operation blocked (R42). -/
@[simp] theorem State.mem_block_mainWaiting (s : State) (i j : Instr) :
    j ∈ (s.block i).mainWaiting ↔ j ∈ s.mainWaiting ∨ j = i := by
  by_cases h : i ∈ s.mainWaiting
  · simp only [State.block, h, if_true]
    exact ⟨Or.inl, fun g => g.elim id (fun e => e ▸ h)⟩
  · simp [State.block, h]

/-- What waits after an operation is accepted: everything else that waited (R131). -/
@[simp] theorem State.mem_accept_mainWaiting (s : State) (i j : Instr) :
    j ∈ (s.accept i).mainWaiting ↔ j ∈ s.mainWaiting ∧ j ≠ i := by
  simp [State.accept]

/-- Everything `andThen` can do, when a next state comes of it. -/
theorem andThen_next {o : Outcome} {f : State → Outcome} {t : State} :
    andThen o f = .next t ↔ ∃ s, o = .next s ∧ f s = .next t := by
  cases o <;> simp [andThen]

@[simp] theorem andThen_of_next (s : State) (f : State → Outcome) : andThen (.next s) f = f s := rfl

end Sys2Proof.Machine
end

