-- ==== Sys2Proof/Laws/Params.lean ====
section
/-! SUPPORT. Arithmetic of widths and ranges: what legality (R7) and a register's range (R9) come to. -/

namespace Sys2Proof

theorem maxOf_succ (w : Nat) : maxOf w + 1 = 2 ^ w := by
  have := Nat.one_le_two_pow (n := w)
  simp only [maxOf]
  omega

/-- Legality as arithmetic (R7 (a), (b), U4). -/
theorem Config.legal_iff {c : Config} : c.legal = true ↔
    (1 ≤ c.longCycles ∧ c.longCycles ≤ c.cycles ∧ c.cycles ≤ maxOf c.posW) ∧
      c.base + 1 ≤ maxOf c.cmpW ∧ persistPeriod ≤ maxOf c.pcntW ∧
      (c.trimEn = true → trimQuantum - 1 ≤ maxOf c.accW) := by
  simp only [Config.legal, Config.patternLegal, Config.baseLegal, Config.widthsLegal, Bool.and_eq_true,
    Bool.or_eq_true, decide_eq_true_eq, Bool.not_eq_true']
  cases c.trimEn <;> simp <;> tauto

/-- The legality of a trim as arithmetic (R7 (c), R113). -/
theorem Config.trimLegal_iff {c : Config} {t : Int} : c.trimLegal t = true ↔
    (c.trimEn = true → 0 ≤ (c.base : Int) + t ∧ (c.base : Int) + 1 + t ≤ maxOf c.cmpW) := by
  simp only [Config.trimLegal, Config.trimFits, Bool.and_eq_true, Bool.or_eq_true, decide_eq_true_eq,
    Bool.not_eq_true']
  cases c.trimEn <;> simp

namespace Machine

/-- The range of an unsigned register (R9). -/
theorem Reg.fits_unsigned {c : Config} {r : Reg} {v : Int} (h : r.signed = false) :
    r.fits c v = true ↔ 0 ≤ v ∧ v ≤ (maxOf (r.width c) : Int) := by
  have := maxOf_succ (r.width c)
  have h2 : ((2 : Int) ^ r.width c) = ((2 ^ r.width c : Nat) : Int) := by push_cast; rfl
  simp only [Reg.fits, h, Bool.false_eq_true, if_false, Bool.and_eq_true, decide_eq_true_eq, h2]
  omega

/-- The range of `trim_offset` (R9, R22). -/
theorem Reg.fits_trimOffset {c : Config} {v : Int} :
    Reg.trimOffset.fits c v = true ↔ -32768 ≤ v ∧ v ≤ 32767 := by
  simp only [Reg.fits, Reg.signed, Reg.width, trimW, if_true, Bool.and_eq_true]
  norm_num

/-- A sign-extended 16-bit pattern fits `trim_offset` (R28). -/
theorem State.loadedTrim_fits (s : State) : Reg.trimOffset.fits s.cfg s.loadedTrim = true := by
  rw [Reg.fits_trimOffset]
  unfold State.loadedTrim
  split
  · have h1 := BitVec.toInt_lt (x := BitVec.ofNat 16 (memRead s.nv trimSlot trimSlotBytes))
    have h2 := BitVec.le_toInt (x := BitVec.ofNat 16 (memRead s.nv trimSlot trimSlotBytes))
    norm_num at h1 h2
    simp only [sext, trimW]
    omega
  · omega

end Machine

end Sys2Proof
end

