-- ==== Sys2Proof/Laws/PerInstr.lean ====
section
/-! SUPPORT. The family of facts stated about each instruction as syntax: one word, which decodes back
to it, carries its agent's field (R80 to R82) and is not reserved (R84). -/

namespace Sys2Proof.Laws.WordOfInstr

/-- The word of an instruction: its field, its decoding, and that it is not reserved. -/
def Statement (i : Instr) : Prop :=
  i.wellFormed = true → (encode i).length = 1 ∧ decode (encodeWord i) = .ok i ∧
    OpWord.agt (encodeWord i) = i.agent.field ∧ OpWord.reserved (encodeWord i) = false

theorem idle : Statement .idle := by unfold Statement; decide
theorem reset : Statement .reset := by unfold Statement; decide
theorem tclk : Statement .tclk := by unfold Statement; decide
theorem consume : Statement .consume := by unfold Statement; decide
theorem sleep : Statement .sleep := by unfold Statement; decide

end Sys2Proof.Laws.WordOfInstr
end

