-- ==== Sys2Proof/Laws/Step.lean ====
section
/-! SUPPORT. What one step can do, said once: how a next state comes about. -/

namespace Sys2Proof.Machine

/-- A next state comes only of a legal configuration, a word on `op` that decodes, an operation that the
held trim admits, and `exec` of it (R7, R11, R88, R113). -/
theorem step_next {s t : State} (h : step s = .next t) :
    s.cfg.legal = true ∧ ∃ w rest i, s.words = w :: rest ∧ decode w = .ok i ∧ s.admits i = true ∧
      exec i (s.present rest) = .next t := by
  unfold step at h
  split at h
  · cases h
  rename_i hl
  refine ⟨by simpa using hl, ?_⟩
  split at h
  · cases h
  rename_i w rest hf
  have hw : s.words = w :: rest := by
    unfold State.fetch at hf
    split at hf
    · cases hf
    · rename_i hw; cases hf; exact hw
  split at h
  · rename_i i hd
    split at h
    · rename_i ha; exact ⟨w, rest, i, hw, hd, ha, h⟩
    · cases h
  · cases h

/-- What a step does where nothing stops it: `exec` of the decoded operation. -/
theorem step_eq_exec {s : State} {w : OpWord} {rest : List OpWord} {i : Instr} (hl : s.cfg.legal = true)
    (hw : s.words = w :: rest) (hd : decode w = .ok i) (ha : s.admits i = true) :
    step s = exec i (s.present rest) := by
  simp [step, hl, State.fetch, hw, hd, ha]

/-- RESET is admitted whatever trim is held (R161). -/
@[simp] theorem State.admits_reset (s : State) : s.admits .reset = true := by simp [State.admits]

/-- Every operation is admitted under a legal trim. -/
theorem State.admits_of_trimLegal {s : State} (h : s.cfg.trimLegal s.trimOffset = true) (i : Instr) :
    s.admits i = true := by simp [State.admits, h]

/-- The words that decode, and to what (R82). -/
theorem decode_ok_cases {w : OpWord} {i : Instr} (h : decode w = .ok i) :
    (w = 0x0#4 ∧ i = .idle) ∨ (w = 0x1#4 ∧ i = .reset) ∨ (w = 0x4#4 ∧ i = .tclk) ∨
      (w = 0x8#4 ∧ i = .consume) ∨ (w = 0x9#4 ∧ i = .sleep) := by
  unfold decode at h
  split_ifs at h <;> cases h <;> simp_all

end Sys2Proof.Machine
end

