-- ==== Sys2Proof/Tests/Slice0.lean ====
section
/-! SUPPORT. Tests of the model against 95_test_vectors.md, and a witness for the hypotheses of every
statement that has any. -/

open Sys2Proof Sys2Proof.Machine

namespace Sys2Proof.Tests

/-- The outcome is a next state with that property. -/
def goes (o : Outcome) (p : State → Bool) : Bool :=
  match o with
  | .next s => p s
  | _       => false

/-- The outcome is that refusal. -/
def refuses (o : Outcome) (r : Refusal) : Bool :=
  match o with
  | .refused q => decide (q = r)
  | _          => false

/-- The outcome is that stop. -/
def stops (o : Outcome) (r : Fault) : Bool :=
  match o with
  | .fault q => decide (q = r)
  | _        => false

/-- Every element of `t` holds what it holds in `s`. -/
def sameElements (s t : State) : Bool :=
  [Reg.timerCount, .compareValue, .nominalCompare, .cyclePosition, .acc, .trimOffset, .backlog, .owed,
    .sleeping, .snap, .persistCnt, .faultCause, .halted, .dbgOut].all fun r => decide (s.get r = t.get r)

/-- The invariant as a check. -/
def checkInv (s : State) : Bool :=
  s.cfg.legal && s.cfg.trimLegal s.trimOffset && (s.cfg.trimEn || decide (s.trimOffset = 0)) &&
    Reg.trimOffset.fits s.cfg s.trimOffset && decide (2 ^ s.cfg.cmpW ≤ trimQuantum) &&
    decide (s.timerCount ≤ s.compareValue) && decide (s.cyclePosition < s.cfg.cycles) &&
    decide (s.nominalCompare = s.cfg.nominalAt s.cyclePosition) &&
    (decide (s.compareValue = s.nominalCompare) ||
      (s.cfg.trimEn && decide ((s.compareValue : Int) = s.nominalCompare + s.trimOffset))) &&
    decide (s.acc < trimQuantum) && (s.cfg.trimEn || decide (s.acc = 0)) &&
    (!s.owed || decide (s.backlog = 0)) && decide (s.backlog ≤ s.cfg.backlogMax) &&
    decide (s.snap ≤ s.cfg.backlogMax) && decide (1 ≤ s.persistCnt) &&
    decide (s.persistCnt ≤ persistPeriod) && decide (s.faultCause ≠ 3#2) &&
    decide (s.halted = decide (s.faultCause ≠ 0#2)) &&
    (!s.dbgOut || (s.halted && s.cfg.debugLockupEn)) &&
    (!s.halted || !s.cfg.debugLockupEn || s.dbgOut)

/-- The check says what the invariant says. -/
theorem checkInv_inv {s : State} (h : checkInv s = true) : s.Inv := by
  simp only [checkInv, Bool.and_eq_true, Bool.or_eq_true, decide_eq_true_eq, Bool.not_eq_true'] at h
  obtain ⟨⟨⟨⟨⟨⟨⟨⟨⟨⟨⟨⟨⟨⟨⟨⟨⟨⟨⟨h1, h2⟩, h3⟩, h4⟩, h5⟩, h6⟩, h7⟩, h8⟩, h9⟩, h10⟩, h11⟩, h12⟩, h13⟩, h14⟩,
    h15⟩, h16⟩, h17⟩, h18⟩, h19⟩, h20⟩ := h
  refine ⟨h1, h2, ?_, h4, h5, h6, h7, h8, h9, h10, ?_, ?_, h13, h14, h15, h16, h17, ?_, ?_, ?_⟩
  · intro h; rcases h3 with g | g
    · rw [h] at g; cases g
    · exact g
  · intro h; rcases h11 with g | g
    · rw [h] at g; cases g
    · exact g
  · intro h; rcases h12 with g | g
    · rw [h] at g; cases g
    · exact g
  · rw [h18, decide_eq_true_eq]
  · intro h; rcases h19 with g | g
    · rw [h] at g; cases g
    · exact g
  · intro h h'; rcases h20 with (g | g) | g
    · rw [h] at g; cases g
    · rw [h'] at g; cases g
    · exact g

/-! ### States -/

/-- S0 of 95_test_vectors.md. -/
abbrev s0 : State := State.reset

/-- S0 with `TRIM_EN = 1` and those bytes at offsets 4 and 5. -/
def trimmed (b4 b5 : Byte) (t : Int) : State :=
  { s0 with
    cfg := { defaultConfig with trimEn := true }
    nv := Memory.write (Memory.write [] 4 b4) 5 b5
    trimOffset := t }

/-- S0 at the compare value of interrupt 1. -/
def atMatch : State := { s0 with timerCount := 48 }

/-- S0 with the backlog full, at a match (V5.3 awake). -/
def full : State := { atMatch with backlog := 255 }

/-- A halted state after an underflow (V2.5). -/
def halted1 : State := { s0 with owed := true, persistCnt := 863999, faultCause := 1#2, halted := true }

/-- A state asleep with a unit owed (V2.8). -/
def asleep : State := { s0 with sleeping := true, owed := true }

/-- A state in which the words to come are given. -/
def presenting (s : State) (ws : List OpWord) : State := { s with words := ws }

/-- An instance of the open profile with that triple, at its reset state. -/
def lowf (cycles long base : Nat) : State :=
  { s0 with
    cfg := { defaultConfig with profile := .lowf, lfCycles := cycles, lfLongCycles := long, lfBase := base }
    compareValue := base + 1, nominalCompare := base + 1 }

/-! ### Encoding (R80 to R84), the words written bit by bit -/

theorem test_decode_idle : decode 0b0000#4 = .ok .idle := by decide
theorem test_decode_reset : decode 0b0001#4 = .ok .reset := by decide
theorem test_decode_tclk : decode 0b0100#4 = .ok .tclk := by decide
theorem test_decode_consume : decode 0b1000#4 = .ok .consume := by decide
theorem test_decode_sleep : decode 0b1001#4 = .ok .sleep := by decide
/-- R84's list. -/
theorem test_decode_reserved :
    [0x2#4, 0x3#4, 0x5#4, 0x6#4, 0x7#4, 0xA#4, 0xB#4, 0xC#4, 0xD#4, 0xE#4, 0xF#4].map decode =
      [0x2#4, 0x3#4, 0x5#4, 0x6#4, 0x7#4, 0xA#4, 0xB#4, 0xC#4, 0xD#4, 0xE#4, 0xF#4].map
        (fun w => .error (.reserved w)) := by decide
theorem test_table_word : decodeTableWord 4 0x8 = some .consume ∧ decodeTableWord 8 0x1 = some .reset ∧
    decodeTableWord 8 0x18 = none := by decide

/-! ### What the checks of well-formedness refuse -/

theorem test_reserved_refused : OpWord.reserved 0x2#4 = true ∧ OpWord.reserved 0xF#4 = true ∧
    OpWord.reserved 0x9#4 = false := by decide
theorem test_line_count_zero_refused :
    Line.wellFormed ⟨.tick, 0⟩ = false ∧ Line.wellFormed ⟨.op .sleep, 1⟩ = true := by decide
/-- R7 (a): no long interval. -/
theorem test_long_cycles_zero_illegal : (lowf 4 0 9).cfg.legal = false := by decide
/-- R7 (a): more long intervals than intervals. -/
theorem test_long_above_cycles_illegal :
    (lowf 4 5 9).cfg.legal = false ∧ (lowf 4 4 9).cfg.legal = true := by decide
/-- R7 (a), (b): a value above its register. -/
theorem test_widths_illegal : (lowf 256 1 9).cfg.legal = false ∧ (lowf 255 1 9).cfg.legal = true ∧
    (lowf 4 1 255).cfg.legal = false ∧ (lowf 4 1 254).cfg.legal = true := by decide
/-- U4: a countdown too narrow for `PERSIST_PERIOD`. -/
theorem test_countdown_width_illegal : Config.legal { defaultConfig with pcntW := 19 } = false := by decide
theorem test_reset_memory_wf : Memory.wf State.reset.nv = true := by decide
/-- V3.12. -/
theorem test_trim_out_of_range : refuses (exec .reset (trimmed 0xFF 0x7F 0)) .trimOutOfRange = true ∧
    refuses (exec .reset (trimmed 0x00 0x80 0)) .trimOutOfRange = true := by decide

/-! ### One step of each operation (95_test_vectors.md) -/

/-- V3.5, halted. -/
theorem test_idle : goes (exec .idle halted1) (fun t => decide (t = halted1)) = true := by decide
/-- V3.7. -/
theorem test_reset_from_halt : goes (exec .reset { full with faultCause := 2#2, halted := true, dbgOut := true })
    (fun t => sameElements t s0) = true := by decide
/-- V3.8, and V3.9 as a word presented to a machine that holds a trim outside its range (R161, R230). -/
theorem test_reset_loads_trim :
    goes (exec .reset (trimmed 0xFD 0xFF 0))
      (fun t => decide (t.trimOffset = -3 ∧ t.out.nvAddr = [4#3, 5#3])) = true ∧
    goes (step (presenting (trimmed 0x05 0x00 300) [0x1#4]))
      (fun t => decide (t.trimOffset = 5 ∧ t.compareValue = 48)) = true := by decide
/-- V1.4 and V1.6 together, the example of R101. -/
theorem test_tclk_match : goes (exec .tclk { atMatch with cyclePosition := 52, owed := true, sleeping := true })
    (fun t => decide (t.cyclePosition = 53 ∧ t.compareValue = 47 ∧ t.nominalCompare = 47 ∧ t.timerCount = 0 ∧
      t.backlog = 0 ∧ t.owed = false ∧ t.sleeping = false ∧ t.out.tick = true ∧ t.out.wake = true)) = true := by
  decide
/-- V4.1. -/
theorem test_tclk_trim : goes (exec .tclk { trimmed 0xFD 0xFF (-3) with acc := 9999960, timerCount := 48 })
    (fun t => decide (t.acc = 9 ∧ t.compareValue = 45 ∧ t.nominalCompare = 48 ∧ t.backlog = 1)) = true := by
  decide
/-- V2.1. -/
theorem test_consume_empty : goes (exec .consume s0)
    (fun t => decide (t.owed = true ∧ t.snap = 0 ∧ t.z = true ∧ t.backlog = 0 ∧ t.persistCnt = 863999)) = true := by
  decide
/-- V2.6. -/
theorem test_consume_persist : goes (exec .consume { s0 with persistCnt := 1, backlog := 3 })
    (fun t => decide (t.persistCnt = 864000 ∧ t.snap = 3 ∧ t.backlog = 2 ∧ t.out.persistReq = true)) = true := by
  decide
/-- V3.1. -/
theorem test_sleep : goes (exec .sleep { s0 with owed := true })
    (fun t => t.sleepPort && !t.ready && t.owed) = true := by decide
/-- V3.3 with a CONSUME that waits already, and R250: when one of the two is accepted, the other still
leaves a failed end. -/
theorem test_blocked_words_wait :
    goes (exec .sleep { s0 with sleeping := true, mainWaiting := [.consume] })
      (fun t => t.out.blocked && sameElements t { s0 with sleeping := true } &&
        decide (t.mainWaiting = [.consume, .sleep])) = true ∧
    goes (exec .consume { s0 with mainWaiting := [.consume, .sleep] })
      (fun t => decide (t.mainWaiting = [.sleep]) && !t.goodEnd && t.failedEnd) = true := by decide
/-- Fault entry in both operations that fault: V5.1 and V2.5. -/
theorem test_fault_entry :
    goes (exec .tclk { s0 with
        backlog := 255, timerCount := 47, compareValue := 47, nominalCompare := 47, cyclePosition := 63,
        cfg := { defaultConfig with debugLockupEn := true } })
      (fun t => decide (t.faultCause = 2#2 ∧ t.timerCount = 47 ∧ t.backlog = 255 ∧ t.out.tick = false) &&
        t.dbgOut) = true ∧
    goes (exec .consume { s0 with owed := true, persistCnt := 863999 })
      (fun t => sameElements t halted1) = true := by decide

/-! ### Program text (R86, R87), program P2's first line pair with its encoding -/

theorem test_parse : parse ['C', 'T', 'I', 'C', 'K', ' ', ';', 'x', '\n', 'T', 'C', 'L', 'K', ' ', '*', ' ', '3'] =
    some [⟨.ctick, 1⟩, ⟨.op .tclk, 3⟩] ∧ parse ['T', 'I', 'C', 'K', '*', '0'] = none := by decide
theorem test_assemble : (expand [⟨.ctick, 1⟩, ⟨.op .tclk, 3⟩] ([], s0)).map (fun p => nibbles p.1) =
    some ['8', '9', '4', '4', '4'] := by decide

/-! ### Witnesses: states and operands that meet the hypotheses of the statements -/

/-- A check that finds a next state gives one. -/
theorem goes_next {o : Outcome} {p : State → Bool} (h : goes o p = true) : ∃ t, o = .next t ∧ p t = true := by
  cases o with
  | next s    => exact ⟨s, rfl, h⟩
  | fault r   => cases h
  | refused r => cases h

theorem wit_EncodedOperationDecodes : Instr.wellFormed .sleep = true := by decide

/-- Under a legal trim, and RESET under one that is not. -/
theorem wit_StepRunsTheDecodedWord :
    s0.cfg.legal = true ∧ (Instr.tclk = .reset ∨ s0.cfg.trimLegal s0.trimOffset = true) ∧
      (presenting s0 [0x4#4]).words = [0x4#4] ∧ decode 0x4#4 = .ok .tclk ∧
      (trimmed 5 0 300).cfg.legal = true ∧ (trimmed 5 0 300).cfg.trimLegal 300 = false ∧
      (presenting (trimmed 5 0 300) [0x1#4]).words = [0x1#4] ∧ decode 0x1#4 = .ok .reset := by decide

theorem wit_TableWordRunsNext :
    s0.cfg.legal = true ∧ (Instr.sleep = .reset ∨ s0.cfg.trimLegal s0.trimOffset = true) ∧
      decodeTableWord 8 0x9 = some .sleep ∧ (trimmed 5 0 300).cfg.legal = true ∧
      decodeTableWord 8 0x1 = some .reset := by decide

theorem wit_ReservedWordIsRefused :
    s0.cfg.legal = true ∧
      (presenting s0 [0x2#4]).words = [0x2#4] ∧
      refuses (step (presenting s0 [0x2#4])) (.reservedWord 0x2#4) = true ∧
      refuses (step (presenting s0 [0xF#4])) (.reservedWord 0xF#4) = true ∧
      goes (step (presenting s0 [0x9#4])) (fun _ => true) = true := by decide

/-- Each clause at its boundary; the trims are one below and one above R113's range. -/
theorem wit_IllegalLaunchIsRefused :
    (lowf 4 0 9).cfg.longCycles = 0 ∧ (lowf 4 5 9).cfg.cycles < (lowf 4 5 9).cfg.longCycles ∧
      2 ^ (lowf 256 1 9).cfg.posW ≤ (lowf 256 1 9).cfg.cycles ∧
      2 ^ (lowf 4 1 255).cfg.cmpW ≤ (lowf 4 1 255).cfg.base + 1 ∧
      (∀ t ∈ [(-48 : Int), 208], let s := presenting (trimmed 0 0 t) [0x4#4, 0x1#4]
        s.cfg.legal = true ∧ s.cfg.trimEn = true ∧ s.words = encodeWord .tclk :: [0x1#4] ∧
          refuses (step s) .trimOutOfRange = true) ∧
      (∀ t ∈ [(-47 : Int), 207],
        goes (step (presenting (trimmed 0 0 t) [0x4#4])) (fun _ => true) = true) ∧
      (presenting (trimmed 0xD0 0x00 0) [0x1#4]).words = encodeWord .reset :: [] ∧
      refuses (step (presenting (trimmed 0xD0 0x00 0) [0x1#4])) .trimOutOfRange = true := by decide

theorem wit_RunEndsWithItsWords :
    s0.cfg.legal = true ∧ s0.words = [] ∧
      stops (step s0) .endOfWords = true := by decide

theorem wit_IdleHasNoEffect :
    s0.cfg.legal = true ∧ s0.cfg.trimLegal s0.trimOffset = true ∧ s0.words = [] := by decide

/-- No trim, and the lowest and the highest legal one (V3.10, V3.11). -/
theorem wit_ResetGivesTheResetState :
    ∀ s ∈ [s0, trimmed 0xD1 0xFF 0, trimmed 0xCF 0x00 0], s.cfg.legal = true ∧
      s.cfg.trimLegal (if s.cfg.trimEn then sext 16 (memRead s.nv 4 2) else 0) = true := by decide

/-- One below and one above the range, and its two ends. -/
theorem wit_ResetRefusesTrimOutOfRange :
    (trimmed 0xD0 0xFF 0).cfg.trimEn = true ∧ sext 16 (memRead (trimmed 0xD0 0xFF 0).nv 4 2) = -48 ∧
      refuses (exec .reset (trimmed 0xD0 0xFF 0)) .trimOutOfRange = true ∧
      refuses (exec .reset (trimmed 0xD0 0x00 0)) .trimOutOfRange = true ∧
      goes (exec .reset (trimmed 0xD1 0xFF 0)) (fun t => decide (t.trimOffset = -47)) = true ∧
      goes (exec .reset (trimmed 0xCF 0x00 0)) (fun t => decide (t.trimOffset = 207)) = true := by decide

theorem wit_NonVolatileReadIsLittleEndian : (trimmed 0xFD 0xFF 0).cfg.trimEn = true := by decide

theorem wit_ResetForgetsThePast :
    let s := trimmed 0xFD 0xFF 0
    let s' := { s with backlog := 7, sleeping := true, nv := Memory.write s.nv 0 0x11 }
    s.cfg = s'.cfg ∧ Memory.read s.nv 4 = Memory.read s'.nv 4 ∧ Memory.read s.nv 5 = Memory.read s'.nv 5 ∧
      (∃ t, exec .reset s = .next t ∧ true = true) ∧ ∃ t', exec .reset s' = .next t' ∧ true = true :=
  ⟨by decide, by decide, by decide, goes_next (by decide), goes_next (by decide)⟩

theorem wit_ResetOfTheDefaultInstance : s0.cfg = defaultConfig := by decide

/-- Halted; and the first and the last increment, the last one under the widest compare value. -/
theorem wit_TclkCountsUnlessHalted :
    halted1.halted = true ∧
      ∀ s ∈ [s0, { s0 with timerCount := 47 }, { lowf 4 1 254 with timerCount := 254 }],
        s.halted = false ∧ s.timerCount < s.compareValue ∧ s.compareValue ≤ 2 ^ s.cfg.cmpW - 1 := by decide

/-- The ends of both sides of every test of MATCH: overflow, wrap, short value, correction due or not. -/
theorem wit_MatchPerformsItsSubsteps :
    ∀ s ∈ [atMatch, full, { full with backlog := 254 }, { atMatch with owed := true, sleeping := true },
        { atMatch with cyclePosition := 52 },
        { s0 with timerCount := 47, compareValue := 47, nominalCompare := 47, cyclePosition := 63 },
        { trimmed 5 0 5 with timerCount := 48, acc := 9999951, cyclePosition := 52 },
        { trimmed 5 0 5 with timerCount := 48, acc := 9999950 }],
      s.Inv ∧ s.halted = false ∧ s.timerCount = s.compareValue := by
  intro s hs
  have : ∀ s ∈ [atMatch, full, { full with backlog := 254 }, { atMatch with owed := true, sleeping := true },
        { atMatch with cyclePosition := 52 },
        { s0 with timerCount := 47, compareValue := 47, nominalCompare := 47, cyclePosition := 63 },
        { trimmed 5 0 5 with timerCount := 48, acc := 9999951, cyclePosition := 52 },
        { trimmed 5 0 5 with timerCount := 48, acc := 9999950 }],
      checkInv s = true ∧ s.halted = false ∧ s.timerCount = s.compareValue := by decide
  exact ⟨checkInv_inv (this s hs).1, (this s hs).2⟩

theorem wit_OverflowStopsTheMatch :
    (full.halted = false ∧ full.timerCount = full.compareValue ∧ full.owed = false ∧
      full.backlog = full.cfg.backlogMax ∧ full.faultCause = 0#2) ∧
    ∃ t, exec .tclk { full with owed := true } = .next t ∧ true = true :=
  ⟨by decide, goes_next (by decide)⟩

/-- No trim (V1.3), one short of the quantum (V4.7), and exactly the quantum (V4.4). -/
theorem wit_TrimCorrectsOneInterval :
    ∀ s ∈ [atMatch, { trimmed 5 0 5 with timerCount := 48, acc := 9999950 },
        { trimmed 5 0 5 with timerCount := 48, acc := 9999951, cyclePosition := 52 }],
      s.Inv ∧ s.halted = false ∧ s.timerCount = s.compareValue ∧
        ∃ t, exec .tclk s = .next t ∧ (!t.halted) = true := by
  intro s hs
  have : ∀ s ∈ [atMatch, { trimmed 5 0 5 with timerCount := 48, acc := 9999950 },
        { trimmed 5 0 5 with timerCount := 48, acc := 9999951, cyclePosition := 52 }],
      checkInv s = true ∧ s.halted = false ∧ s.timerCount = s.compareValue ∧
        goes (exec .tclk s) (fun t => !t.halted) = true := by decide
  obtain ⟨h1, h2, h3, h4⟩ := this s hs
  exact ⟨checkInv_inv h1, h2, h3, goes_next h4⟩

theorem wit_MatchLeavesTheMainContext : ∃ t, exec .tclk atMatch = .next t ∧ t.out.tick = true :=
  goes_next (by decide)

/-- Both ends of the countdown and of the backlog, the blocked cases, and the owed unit. -/
theorem wit_ConsumeTakesOneTick :
    ∀ s ∈ [s0, { s0 with persistCnt := 1, backlog := 255 }, asleep, halted1, { s0 with owed := true }],
      1 ≤ s.persistCnt ∧ s.persistCnt ≤ 864000 ∧ 864000 ≤ 2 ^ s.cfg.pcntW - 1 ∧
        s.backlog ≤ s.cfg.backlogMax := by decide

theorem wit_HaltedMachineIsFrozen :
    halted1.halted = true ∧ Instr.consume ≠ .reset ∧ Instr.tclk ≠ .reset ∧ halted1.Inv :=
  ⟨by decide, by decide, by decide, checkInv_inv (by decide)⟩

theorem wit_FaultStaysUntilReset :
    (presenting halted1 [0x8#4]).Inv ∧ (presenting halted1 [0x8#4]).faultCause ≠ 0#2 ∧
      (presenting halted1 [0x8#4]).nextInstr ≠ some .reset ∧
      ∃ t, step (presenting halted1 [0x8#4]) = .next t ∧ t.out.blocked = true :=
  ⟨checkInv_inv (by decide), by decide, by decide, goes_next (by decide)⟩

theorem wit_OperationsWriteOnlyTheirColumn :
    (∃ t, exec .tclk atMatch = .next t ∧ t.out.tick = true) ∧ Instr.tclk ≠ .reset ∧
      Reg.snap ∉ mayWrite .tclk atMatch ∧ Reg.backlog ∉ mayWrite .tclk s0 ∧
      Reg.backlog ∉ mayWrite .tclk full ∧ Reg.sleeping ∉ mayWrite .consume s0 ∧
      Reg.owed ∉ mayWrite .sleep s0 ∧ Reg.timerCount ∉ mayWrite .idle s0 :=
  ⟨goes_next (by decide), by decide, by decide, by decide, by decide, by decide, by decide, by decide⟩

theorem wit_OperationsReadOnlyTheirColumn :
    Reg.snap ∉ mayTouch .tclk ∧ Reg.timerCount ∉ mayTouch .consume ∧ Reg.owed ∉ mayTouch .sleep ∧
      Reg.halted ∉ mayTouch .idle ∧ Instr.tclk ≠ .reset := by decide

theorem wit_NonVolatileSpaceIsNeverWritten :
    ∃ t, exec .reset (trimmed 0xFD 0xFF 0) = .next t ∧ decide (t.trimOffset = -3) = true :=
  goes_next (by decide)

theorem wit_LaunchParametersAreConstant :
    (∃ t, exec .consume s0 = .next t ∧ t.owed = true) ∧
      ∃ t, step (presenting s0 [0x8#4, 0x9#4]) = .next t ∧ t.owed = true :=
  ⟨goes_next (by decide), goes_next (by decide)⟩

/-- Each of the three ways in which a stored byte is invisible, with offsets next to the slot. -/
theorem wit_NonVolatileStoresAreInvisible :
    (3 ≠ 4 ∧ 3 ≠ 5) ∧ (6 ≠ 4 ∧ 6 ≠ 5) ∧ s0.cfg.trimEn = false ∧
      (presenting (trimmed 0xFD 0xFF 0) [0x4#4]).nextInstr ≠ some .reset := by decide

/-- Each clause: sleep entered, left by RESET and by a MATCH, and both MAIN operations while it lasts. -/
theorem wit_OnlyMatchOrResetEndsSleep :
    (∃ t, step (presenting s0 [0x9#4]) = .next t ∧ t.sleeping = true) ∧ s0.sleeping = false ∧
      s0.ready = true ∧ asleep.sleeping = true ∧
      (∃ t, step (presenting asleep [0x1#4]) = .next t ∧ (!t.sleeping) = true) ∧
      (∃ t, step (presenting { asleep with timerCount := 48 } [0x4#4]) = .next t ∧
        (!t.sleeping && t.out.tick) = true) ∧
      (∃ t, step (presenting asleep [0x8#4]) = .next t ∧ t.out.blocked = true) ∧
      ∃ t, step (presenting asleep [0x9#4]) = .next t ∧ t.out.blocked = true :=
  ⟨goes_next (by decide), by decide, by decide, by decide, goes_next (by decide), goes_next (by decide),
    goes_next (by decide), goes_next (by decide)⟩

theorem wit_StepKeepsTheInvariant :
    (presenting full [0x4#4]).Inv ∧ ∃ t, step (presenting full [0x4#4]) = .next t ∧ t.halted = true :=
  ⟨checkInv_inv (by decide), goes_next (by decide)⟩

theorem wit_ResetEstablishesTheInvariant :
    s0.cfg.legal = true ∧ 2 ^ s0.cfg.cmpW ≤ trimQuantum ∧
      ∃ t, exec .reset { halted1 with compareValue := 300 } = .next t ∧ (!t.halted) = true :=
  ⟨by decide, by decide, goes_next (by decide)⟩

theorem wit_InvariantKeepsRegistersInRange : full.Inv := checkInv_inv (by decide)

theorem wit_StepNeverLeavesARegister :
    (presenting full [0x4#4]).inRange ∧ ∃ t, step (presenting full [0x4#4]) = .next t ∧ t.halted = true :=
  ⟨fun r => by cases r <;> decide, goes_next (by decide)⟩

/-- A word of each of the three cases. -/
theorem wit_InvariantStatesAlwaysStep :
    (presenting s0 [0x8#4]).Inv ∧ (presenting s0 [0x8#4]).words = [0x8#4] ∧
      (presenting s0 [0x2#4]).Inv ∧ OpWord.reserved 0x2#4 = true ∧
      (presenting (trimmed 0xD0 0xFF 0) [0x1#4]).Inv ∧
      (trimmed 0xD0 0xFF 0).cfg.trimFits (trimmed 0xD0 0xFF 0).loadedTrim = false :=
  ⟨checkInv_inv (by decide), by decide, checkInv_inv (by decide), by decide, checkInv_inv (by decide), by decide⟩

/-- A run of a CONSUME, a SLEEP and the waking MATCH. -/
def paced : State := presenting { s0 with timerCount := 48 } [0x8#4, 0x9#4, 0x4#4]

theorem paced_runs : (runLedger 3 paced ⟨0, 0⟩).isSome = true := by decide

theorem wit_BacklogIsProducedLessConsumed :
    paced.Inv ∧ paced.effectiveBacklog = 0 ∧ ∃ p, runLedger 3 paced ⟨0, 0⟩ = some p :=
  ⟨checkInv_inv (by decide), by decide, Option.isSome_iff_exists.mp paced_runs⟩

theorem wit_CountdownCountsConsumes :
    paced.Inv ∧ paced.persistCnt = 864000 ∧ ∃ p, runLedger 3 paced ⟨0, 0⟩ = some p :=
  ⟨checkInv_inv (by decide), by decide, Option.isSome_iff_exists.mp paced_runs⟩

theorem wit_ProtocolPreventsUnderflow :
    paced.owed = false ∧ paced.faultCause ≠ 1#2 ∧ keepsProtocol 3 false paced = true ∧
      ∃ p, runLedger 3 paced ⟨0, 0⟩ = some p :=
  ⟨by decide, by decide, by decide, Option.isSome_iff_exists.mp paced_runs⟩

/-- The first and the last number of TCLKs below a TICK. -/
theorem wit_TickIsOneMatch : s0.Inv ∧ s0.halted = false ∧ 0 < s0.clocksToMatch ∧ 48 < s0.clocksToMatch :=
  ⟨checkInv_inv (by decide), by decide, by decide, by decide⟩

/-- The first and last long interval, the first and last short one. -/
theorem wit_PatternOfCompareValues :
    s0.Inv ∧ s0.cfg.trimEn = false ∧ s0.halted = false ∧ s0.timerCount = 0 ∧ s0.cyclePosition = 0 ∧
      ∀ k ∈ [0, 52, 53, 63], k < s0.cfg.cycles ∧ s0.effectiveBacklog + k ≤ s0.cfg.backlogMax :=
  ⟨checkInv_inv (by decide), by decide, by decide, by decide, by decide, by decide⟩

/-- From S0, and with the fullest backlog that has room, in the middle of the pattern. -/
theorem wit_WindowTakesExactlyThePatternClocks :
    ∀ s ∈ [s0, { s0 with backlog := 191, cyclePosition := 30 }],
      s.Inv ∧ s.cfg.trimEn = false ∧ s.halted = false ∧ s.timerCount = 0 ∧
        s.effectiveBacklog + s.cfg.cycles ≤ s.cfg.backlogMax := by
  intro s hs
  have : ∀ s ∈ [s0, { s0 with backlog := 191, cyclePosition := 30 }],
      checkInv s = true ∧ s.cfg.trimEn = false ∧ s.halted = false ∧ s.timerCount = 0 ∧
        s.effectiveBacklog + s.cfg.cycles ≤ s.cfg.backlogMax := by decide
  exact ⟨checkInv_inv (this s hs).1, (this s hs).2⟩

theorem wit_FirstTickAfterReset :
    s0.cfg.legal = true ∧ 2 ^ s0.cfg.cmpW ≤ trimQuantum ∧ 1 ≤ s0.cfg.backlogMax ∧
      0 < s0.cfg.base + 2 ∧ 48 < s0.cfg.base + 2 ∧ ∃ t, exec .reset halted1 = .next t ∧ (!t.halted) = true :=
  ⟨by decide, by decide, by decide, by decide, by decide, goes_next (by decide)⟩

theorem wit_SteadyStateIsPacedByTicks :
    s0.Inv ∧ s0.sleeping = false ∧ s0.halted = false ∧ s0.backlog = 0 ∧ s0.owed = false :=
  ⟨checkInv_inv (by decide), by decide, by decide, by decide, by decide⟩

theorem wit_SleepEntryRaceBanksOneTick :
    s0.Inv ∧ s0.sleeping = false ∧ s0.halted = false ∧ s0.backlog = 0 ∧ s0.owed = false ∧
      1 ≤ s0.cfg.backlogMax :=
  ⟨checkInv_inv (by decide), by decide, by decide, by decide, by decide, by decide⟩

/-- Two intervals of one clock each, the first of which makes a correction. -/
theorem wit_TrimCorrectsOncePerQuantum :
    let s := { trimmed 0xD1 0xFF (-47) with acc := 9999999, compareValue := 0, cyclePosition := 52 }
    s.cfg.trimEn = true ∧ s.timerCount = 0 ∧
      (tickTotals 2 s).map (fun p => (p.1.acc, p.2)) = some (1, 2, 1) := by decide

theorem wit_PseudoOperationsAreTheirWords :
    s0.cfg.legal = true ∧ s0.cfg.trimLegal s0.trimOffset = true ∧ s0.words = [] := by decide

/-- A good end, a halt, and a MAIN operation left blocked. -/
theorem wit_RunEndsWellOrFails :
    s0.Inv ∧ s0.words = [] ∧ s0.goodEnd = true ∧ halted1.Inv ∧ halted1.failedEnd = true ∧
      State.failedEnd { asleep with mainWaiting := [.consume] } = true :=
  ⟨checkInv_inv (by decide), by decide, by decide, checkInv_inv (by decide), by decide, by decide⟩

/-- A trim held out of range, and the two ends of the range in the slot. -/
theorem wit_ResetStepLeavesTheResetElements :
    ∀ s ∈ [presenting (trimmed 0xD1 0xFF 300) [0x1#4], presenting (trimmed 0xCF 0x00 (-48)) [0x1#4],
        presenting halted1 [0x1#4]],
      s.cfg.legal = true ∧ s.cfg.trimLegal s.loadedTrim = true ∧ s.words = 0x1#4 :: [] := by decide

/-- Both ends of the countdown and of the backlog, and the owed unit. -/
theorem wit_AcceptedConsumeTakesOneTick :
    ∀ s ∈ [s0, { s0 with persistCnt := 1, backlog := 255 }, { s0 with owed := true }],
      s.ready = true ∧ 1 ≤ s.persistCnt ∧ s.persistCnt ≤ 864000 ∧ 864000 ≤ 2 ^ s.cfg.pcntW - 1 ∧
        s.backlog ≤ s.cfg.backlogMax := by decide

/-- The largest value of a one-byte register and the lowest of the signed one. -/
theorem wit_CommitWritesExactValues :
    let ws : Writes := [(.timerCount, 255), (.trimOffset, -32768)]
    (ws.map Prod.fst).Nodup ∧ goes (commit s0 ws) (fun t => decide (t.timerCount = 255)) = true ∧
      stops (commit s0 [(.timerCount, 256)]) (.registerRange .timerCount) = true := by decide

theorem wit_StepKeepsTheLedger :
    (presenting { s0 with backlog := 2 } [0x8#4]).effectiveBacklog = ((3 : Nat) : Int) - (1 : Nat) ∧
      ∃ t, step (presenting { s0 with backlog := 2 } [0x8#4]) = .next t ∧ decide (t.backlog = 1) = true :=
  ⟨by decide, goes_next (by decide)⟩

/-- A unit owed while awake, so the main context must wait, and its SLEEP. -/
theorem wit_StepKeepsTheProtocol :
    let s := presenting { s0 with owed := true } [0x9#4]
    (s.owed = true → s.sleeping = false → true = true) ∧ s.faultCause ≠ 1#2 ∧
      ¬ (true = true ∧ s.nextInstr = some .consume ∧ s.ready = true) ∧
      ∃ t, step s = .next t ∧ t.sleeping = true :=
  ⟨fun _ _ => rfl, by decide, by decide, goes_next (by decide)⟩

/-- The MATCH of V4.4, which makes a correction, of a machine that has counted 9,999,999 clocks. -/
theorem wit_StepKeepsTheTrimBalance :
    let s := presenting { trimmed 5 0 5 with timerCount := 48, acc := 9999951, cyclePosition := 52 } [0x4#4]
    s.cfg.trimEn = true ∧ TrimLedger.balanced ⟨9999999, 0⟩ s ∧
      ∃ t, step s = .next t ∧ decide (t.acc = 0 ∧ t.compareValue = 52) = true :=
  ⟨by decide, by unfold TrimLedger.balanced; decide, goes_next (by decide)⟩

/-- A word blocked, and a waiting operation accepted. -/
theorem wit_BlockedOperationsWaitToBeAccepted :
    (∃ t, step (presenting asleep [0x9#4]) = .next t ∧ decide (t.mainWaiting = [.sleep]) = true) ∧
      ∃ t, step (presenting { s0 with mainWaiting := [.sleep] } [0x9#4]) = .next t ∧
        decide (t.mainWaiting = []) = true :=
  ⟨goes_next (by decide), goes_next (by decide)⟩

end Sys2Proof.Tests
end

section
/-! SUPPORT. What a list of writes leaves in each element, and what each operation can do: one lemma per
operation that lists the branches of its meaning, so that a proof need not unfold it. -/

namespace Sys2Proof.Machine

/-- An element that is written once, with a value of its range, reads as that value (R9, R10). -/
theorem State.putAll_get_of_written {s : State} {c : Config} {ws : Writes} {r : Reg} {v : Int}
    (hn : (ws.map Prod.fst).Nodup) (hm : (r, v) ∈ ws) (hf : r.fits c v = true) :
    (s.putAll ws).get r = v := by
  induction ws generalizing s with
  | nil => cases hm
  | cons w ws ih =>
    obtain ⟨q, u⟩ := w
    obtain ⟨hq, hn⟩ := List.nodup_cons.mp hn
    rw [State.putAll_cons]
    rcases List.mem_cons.mp hm with he | hm
    · obtain ⟨rfl, rfl⟩ := Prod.mk.inj he
      rw [State.putAll_get_of_unwritten fun w hw e => hq (List.mem_map.mpr ⟨w, hw, e⟩)]
      exact State.get_set_of_fits hf
    · exact ih hn hm

/-- A committed step leaves the elements it does not write. -/
theorem commit_next_get {s t : State} {ws : Writes} {r : Reg} (h : commit s ws = .next t)
    (hr : ∀ w ∈ ws, w.1 ≠ r) : t.get r = s.get r := by
  rw [(commit_next h).1, State.putAll_get_of_unwritten hr]

/-- A committed step leaves in each element it writes exactly the value written. -/
theorem commit_next_get_written {s t : State} {ws : Writes} {r : Reg} {v : Int}
    (h : commit s ws = .next t) (hn : (ws.map Prod.fst).Nodup) (hm : (r, v) ∈ ws) : t.get r = v := by
  obtain ⟨rfl, hf⟩ := commit_next h
  exact State.putAll_get_of_written hn hm (hf _ hm)

/-- Writes are to elements, so they leave the outputs. -/
theorem commit_next_out {s t : State} {ws : Writes} (h : commit s ws = .next t) : t.out = s.out := by
  rw [(commit_next h).1, State.putAll_out]

/-- Fault entry writes the three elements of R193 and no other. -/
theorem raiseFault_next_get {s t : State} {f : FaultCause} {r : Reg} (h : raiseFault f s = .next t)
    (hr : r ∉ [Reg.faultCause, .halted, .dbgOut]) : t.get r = s.get r := by
  have hwritten : ∀ w ∈ (if s.faultCause = 0#2 then [(Reg.faultCause, f.code)] else []) ++
      [(.halted, 1), (.dbgOut, s.cfg.debugLockupEn.toInt)],
      w.1 ∈ [Reg.faultCause, .halted, .dbgOut] := by
    split <;> simp
  exact commit_next_get h fun w hw e => hr (e ▸ hwritten w hw)

/-- Zero is in the range of every element. -/
theorem Reg.fits_zero (c : Config) (r : Reg) : r.fits c 0 = true := by
  cases r
  case trimOffset => exact Reg.fits_trimOffset.mpr (by omega)
  all_goals exact (Reg.fits_unsigned rfl).mpr ⟨le_rfl, Int.natCast_nonneg _⟩

/-- RESET writes no element twice. -/
theorem State.resetWrites_nodup (s : State) : (s.resetWrites.map Prod.fst).Nodup := by
  simp [State.resetWrites]

/-- Every reset value of a legal configuration is in its register's range (R7 (b), R43, U4). -/
theorem State.resetWrites_fit {s : State} (hl : s.cfg.legal = true) :
    ∀ w ∈ s.resetWrites, w.1.fits s.cfg w.2 = true := by
  obtain ⟨-, hbase, hperiod, -⟩ := Config.legal_iff.mp hl
  have hc : Reg.compareValue.fits s.cfg (s.cfg.base + 1) = true :=
    (Reg.fits_unsigned rfl).mpr ⟨by omega, by exact_mod_cast hbase⟩
  have hp : Reg.persistCnt.fits s.cfg persistPeriod = true :=
    (Reg.fits_unsigned rfl).mpr ⟨by omega, by exact_mod_cast hperiod⟩
  simp only [State.resetWrites, List.forall_mem_cons, Reg.fits_zero, s.loadedTrim_fits, hp, hc,
    true_and]
  exact ⟨hc, fun _ hw => absurd hw List.not_mem_nil⟩

/-- All that RESET does where it answers: its writes are committed (R161). -/
theorem exec_reset_next {s t : State} (h : exec .reset s = .next t) :
    s.cfg.trimLegal s.loadedTrim = true ∧ commit (s.driveNv s.trimReads) s.resetWrites = .next t := by
  simp only [exec, execReset] at h
  split at h
  · exact ⟨‹_›, h⟩
  · cases h

/-- RESET completes in every state of a legal configuration whose loaded trim is in range (R161). -/
theorem exec_reset_of_legal {s : State} (hl : s.cfg.legal = true)
    (ht : s.cfg.trimLegal s.loadedTrim = true) :
    exec .reset s = .next ((s.driveNv s.trimReads).putAll s.resetWrites) := by
  simp only [exec, execReset, ht, if_true]
  exact commit_of_fits (State.resetWrites_fit hl)

/-- Where RESET answers, it leaves in each element the value it writes there. -/
theorem exec_reset_get {s t : State} {r : Reg} {v : Int} (h : exec .reset s = .next t)
    (hm : (r, v) ∈ s.resetWrites) : t.get r = v :=
  commit_next_get_written (exec_reset_next h).2 s.resetWrites_nodup hm

/-- The four things a TCLK can do (R100, R101, R102). -/
theorem exec_tclk_cases (s : State) :
    (s.halted = true ∧ exec .tclk s = .next s) ∨
    (s.halted = false ∧ s.timerCount ≠ s.compareValue ∧
      exec .tclk s = commit s [(.timerCount, s.timerCount + 1)]) ∨
    (s.halted = false ∧ s.timerCount = s.compareValue ∧ s.overflows = true ∧
      exec .tclk s = raiseFault .backlogOverflow s) ∨
    (s.halted = false ∧ s.timerCount = s.compareValue ∧ s.overflows = false ∧
      exec .tclk s = commit s.matchEvents s.matchWrites) := by
  simp only [exec, execTclk, matchStep]
  split_ifs with hh hm ho
  · exact .inl ⟨hh, rfl⟩
  · exact .inr (.inr (.inl ⟨by simpa using hh, hm, ho, rfl⟩))
  · exact .inr (.inr (.inr ⟨by simpa using hh, hm, by simpa using ho, rfl⟩))
  · exact .inr (.inl ⟨by simpa using hh, hm, rfl⟩)

/-- The three things a CONSUME can do (R131, R132, R135). -/
theorem exec_consume_cases (s : State) :
    (s.ready = false ∧ exec .consume s = .next (s.block .consume)) ∨
    (s.ready = true ∧ s.owed = true ∧
      exec .consume s = raiseFault .backlogUnderflow (s.accept .consume)) ∨
    (s.ready = true ∧ s.owed = false ∧
      exec .consume s =
        commit (if s.persistDue then (s.accept .consume).emitPersistReq else s.accept .consume)
          ([(.persistCnt, s.nextPersist), (.snap, s.backlog)] ++ s.takeUnit)) := by
  by_cases hr : s.ready = true
  · by_cases ho : s.owed = true
    · exact .inr (.inl ⟨hr, ho, (if_pos hr).trans (if_pos ho)⟩)
    · exact .inr (.inr ⟨hr, by simpa using ho, (if_pos hr).trans (if_neg ho)⟩)
  · exact .inl ⟨by simpa using hr, if_neg hr⟩

/-- The two things a SLEEP can do (R131, R136). -/
theorem exec_sleep_cases (s : State) :
    (s.ready = false ∧ exec .sleep s = .next (s.block .sleep)) ∨
    (s.ready = true ∧ exec .sleep s = commit (s.accept .sleep) [(.sleeping, 1)]) := by
  by_cases hr : s.ready = true
  · exact .inr ⟨hr, if_pos hr⟩
  · exact .inl ⟨by simpa using hr, if_neg hr⟩

/-- A word that decodes names the next operation. -/
theorem State.nextInstr_of_decode {s : State} {w : OpWord} {rest : List OpWord} {i : Instr}
    (hw : s.words = w :: rest) (hd : decode w = .ok i) : s.nextInstr = some i := by
  simp [State.nextInstr, hw, hd, Except.toOption]

/-- A next state is what the next operation makes of the state with its word taken (R11, R88). -/
theorem step_next_exec {s t : State} (h : step s = .next t) :
    ∃ i rest, s.nextInstr = some i ∧ exec i (s.present rest) = .next t := by
  obtain ⟨-, w, rest, i, hw, hd, -, he⟩ := step_next h
  exact ⟨i, rest, State.nextInstr_of_decode hw hd, he⟩

@[simp] theorem State.present_ready (s : State) (rest : List OpWord) :
    (s.present rest).ready = s.ready := rfl

/-- The trim that RESET loads, in R43's words. -/
theorem State.loadedTrim_eq (s : State) :
    s.loadedTrim = if s.cfg.trimEn then sext 16 (memRead s.nv 4 2) else 0 := rfl

@[simp] theorem State.present_loadedTrim (s : State) (rest : List OpWord) :
    (s.present rest).loadedTrim = s.loadedTrim := rfl

/-- A sleeping machine is not ready (R42). -/
theorem State.ready_of_sleeping {s : State} (h : s.sleeping = true) : s.ready = false := by
  simp [State.ready, h]

end Sys2Proof.Machine
end

section
/-! SUPPORT. What each operation does to `sleeping` and to the event `Tick` (R32). -/

namespace Sys2Proof.Machine

/-- `sleeping` is settled by its reading as an integer. -/
theorem State.sleeping_of_get {t : State} {b : Bool} (h : t.get .sleeping = b.toInt) :
    t.sleeping = b := by
  rw [State.get_sleeping] at h
  cases b <;> cases ht : t.sleeping <;> simp_all

/-- Before its word is performed a step has emitted nothing (R41). -/
@[simp] theorem Outputs.quiet_tick : Outputs.quiet.tick = false := rfl

/-- RESET wakes and emits no `Tick`. -/
theorem exec_reset_sleeping {s t : State} (h : exec .reset s = .next t) :
    t.sleeping = false ∧ t.out.tick = s.out.tick := by
  refine ⟨State.sleeping_of_get (exec_reset_get h ?_), ?_⟩
  · simp [State.resetWrites]
  · rw [commit_next_out (exec_reset_next h).2, State.driveNv_out]

/-- A MATCH emits `Tick`. -/
@[simp] theorem State.matchEvents_tick (s : State) : s.matchEvents.out.tick = true := rfl

/-- The events of a MATCH are no elements. -/
@[simp] theorem State.matchEvents_get (s : State) (r : Reg) : s.matchEvents.get r = s.get r := by
  unfold State.matchEvents
  split <;> simp

/-- A MATCH writes no element twice. -/
theorem State.matchWrites_nodup (s : State) : (s.matchWrites.map Prod.fst).Nodup := by
  unfold State.matchWrites State.bankTick State.wakeWrites
  cases s.owed <;> cases s.sleeping <;> cases s.cfg.trimEn <;> simp

/-- A MATCH of a machine that is awake does not write `sleeping` (R110). -/
theorem State.matchWrites_unwritten_sleeping {s : State} (h : s.sleeping = false) :
    ∀ w ∈ s.matchWrites, w.1 ≠ .sleeping := by
  unfold State.matchWrites State.bankTick State.wakeWrites
  cases s.owed <;> cases s.cfg.trimEn <;> simp [h]

/-- A MATCH of a machine that sleeps clears `sleeping` (R110). -/
theorem State.matchWrites_wake {s : State} (h : s.sleeping = true) :
    (Reg.sleeping, 0) ∈ s.matchWrites := by
  simp [State.matchWrites, State.wakeWrites, h]

/-- A MATCH that does not fault leaves nobody asleep (R110). -/
theorem commit_matchWrites_sleeping {s t : State}
    (h : commit s.matchEvents s.matchWrites = .next t) : t.sleeping = false := by
  refine State.sleeping_of_get ?_
  cases hs : s.sleeping with
  | true => exact commit_next_get_written h s.matchWrites_nodup (State.matchWrites_wake hs)
  | false =>
    rw [commit_next_get h (State.matchWrites_unwritten_sleeping hs), State.matchEvents_get,
      State.get_sleeping, hs]

/-- A fault leaves `sleeping` and the outputs as they are (R193). -/
theorem raiseFault_sleeping {s t : State} {f : FaultCause} (h : raiseFault f s = .next t) :
    t.sleeping = s.sleeping ∧ t.out = s.out :=
  ⟨State.sleeping_of_get (raiseFault_next_get h (by decide)), commit_next_out h⟩

/-- A TCLK either leaves `sleeping` and emits no `Tick`, or is a MATCH, which clears the one and emits
the other. -/
theorem exec_tclk_sleeping {s t : State} (h : exec .tclk s = .next t) :
    (t.sleeping = s.sleeping ∧ t.out.tick = s.out.tick) ∨
      (t.sleeping = false ∧ t.out.tick = true) := by
  rcases exec_tclk_cases s with ⟨-, he⟩ | ⟨-, -, he⟩ | ⟨-, -, -, he⟩ | ⟨-, -, -, he⟩ <;> rw [he] at h
  · cases h
    exact .inl ⟨rfl, rfl⟩
  · refine .inl ⟨State.sleeping_of_get (commit_next_get h (by simp)), ?_⟩
    rw [commit_next_out h]
  · obtain ⟨hs, ho⟩ := raiseFault_sleeping h
    exact .inl ⟨hs, by rw [ho]⟩
  · refine .inr ⟨commit_matchWrites_sleeping h, ?_⟩
    rw [commit_next_out h, State.matchEvents_tick]

/-- The decrement of the backlog does not write `sleeping` (R134). -/
theorem State.takeUnit_unwritten_sleeping (s : State) : ∀ w ∈ s.takeUnit, w.1 ≠ .sleeping := by
  unfold State.takeUnit
  split <;> simp

/-- A CONSUME leaves `sleeping` and emits no `Tick`. -/
theorem exec_consume_sleeping {s t : State} (h : exec .consume s = .next t) :
    t.sleeping = s.sleeping ∧ t.out.tick = s.out.tick := by
  rcases exec_consume_cases s with ⟨-, he⟩ | ⟨-, -, he⟩ | ⟨-, -, he⟩ <;> rw [he] at h
  · cases h
    exact ⟨rfl, rfl⟩
  · obtain ⟨hs, ho⟩ := raiseFault_sleeping h
    exact ⟨hs, by rw [ho, State.accept_out]⟩
  · have hw := s.takeUnit_unwritten_sleeping
    refine ⟨State.sleeping_of_get ((commit_next_get h ?_).trans ?_), ?_⟩
    · simpa using hw
    · split <;> simp
    · rw [commit_next_out h]
      split <;> simp

/-- An accepted SLEEP sets `sleeping` and emits no `Tick` (R136). -/
theorem exec_sleep_sleeping {s t : State} (hr : s.ready = true) (h : exec .sleep s = .next t) :
    t.sleeping = true ∧ t.out.tick = s.out.tick := by
  rcases exec_sleep_cases s with ⟨hn, -⟩ | ⟨-, he⟩
  · simp [hr] at hn
  · rw [he] at h
    refine ⟨State.sleeping_of_get (commit_next_get_written h (by simp) (by simp)), ?_⟩
    rw [commit_next_out h, State.accept_out]

/-- A MAIN operation presented to a machine that is not ready is blocked (R42, R131). -/
theorem exec_main_of_not_ready {s : State} {i : Instr} (hm : i = .consume ∨ i = .sleep)
    (hr : s.ready = false) : exec i s = .next (s.block i) := by
  rcases hm with rfl | rfl
  · simp [exec, execConsume, hr]
  · simp [exec, execSleep, hr]

/-- Everything an operation can do to `sleeping` and to `Tick`: it leaves both, or it is one of the
three that write `sleeping`. -/
theorem exec_sleeping_cases {i : Instr} {s t : State} (h : exec i s = .next t) :
    (t.sleeping = s.sleeping ∧ t.out.tick = s.out.tick ∧ (i = .sleep → s.ready = false)) ∨
      (i = .sleep ∧ s.ready = true ∧ t.sleeping = true ∧ t.out.tick = s.out.tick) ∨
      (i = .tclk ∧ t.sleeping = false ∧ t.out.tick = true) ∨
      (i = .reset ∧ t.sleeping = false ∧ t.out.tick = s.out.tick) := by
  cases i with
  | idle =>
    cases h
    simp
  | reset =>
    obtain ⟨hs, ho⟩ := exec_reset_sleeping h
    exact .inr (.inr (.inr ⟨rfl, hs, ho⟩))
  | tclk =>
    rcases exec_tclk_sleeping h with ⟨hs, ho⟩ | ⟨hs, ho⟩
    · exact .inl ⟨hs, ho, by simp⟩
    · exact .inr (.inr (.inl ⟨rfl, hs, ho⟩))
  | consume =>
    obtain ⟨hs, ho⟩ := exec_consume_sleeping h
    exact .inl ⟨hs, ho, by simp⟩
  | sleep =>
    cases hr : s.ready with
    | true =>
      obtain ⟨hs, ho⟩ := exec_sleep_sleeping hr h
      exact .inr (.inl ⟨rfl, rfl, hs, ho⟩)
    | false =>
      rw [exec_main_of_not_ready (.inr rfl) hr] at h
      cases h
      simp

end Sys2Proof.Machine
end

section
/-! The statements of 10_state.md. -/

open Sys2Proof Sys2Proof.Machine

namespace Sys2Proof.Proofs

/-- Settles O31: the four clauses about `sleeping` and `Tick` are read off `exec_sleeping_cases`; the
last is the block of a MAIN operation that finds the machine not ready. -/
theorem onlyMatchOrResetEndsSleep : Obligations.OnlyMatchOrResetEndsSleep := by
  unfold Obligations.OnlyMatchOrResetEndsSleep
  intro s t h
  obtain ⟨i, rest, hi, he⟩ := step_next_exec h
  have hblocked : s.sleeping = true → i = .consume ∨ i = .sleep →
      t.out.blocked = true ∧ ∀ r : Reg, t.get r = s.get r := by
    intro hs hm
    have hr : (s.present rest).ready = false := State.ready_of_sleeping hs
    rw [exec_main_of_not_ready hm hr] at he
    cases he
    simp
  simp only [hi, Option.some.injEq]
  rcases exec_sleeping_cases he with
    ⟨hs, ho, hn⟩ | ⟨rfl, -, hs, ho⟩ | ⟨rfl, hs, ho⟩ | ⟨rfl, hs, ho⟩
  · refine ⟨fun h0 h1 => ?_, fun h1 h0 => ?_, fun hi hr => ?_, by simp [ho], hblocked⟩
    · simp [hs, h0] at h1
    · simp [hs, h1] at h0
    · simp [← State.present_ready s rest, hn hi] at hr
  · exact ⟨fun _ _ => rfl, by simp [hs], fun _ _ => hs, by simp [ho], hblocked⟩
  · exact ⟨by simp [hs], fun _ _ => .inr ⟨rfl, ho⟩, by simp, fun _ => hs, hblocked⟩
  · exact ⟨by simp [hs], fun _ _ => .inl rfl, by simp, fun _ => hs, hblocked⟩

/-- Settles O50: RESET completes, and each element holds the one value that `State.resetWrites` writes
to it. -/
theorem resetStepLeavesTheResetElements : Obligations.ResetStepLeavesTheResetElements := by
  unfold Obligations.ResetStepLeavesTheResetElements
  intro s rest hl ht hw
  have hstep : step s = exec .reset (s.present rest) :=
    step_eq_exec hl hw (by decide) s.admits_reset
  have hexec := exec_reset_of_legal (s := s.present rest) hl ht
  refine ⟨_, hstep.trans hexec, ?_⟩
  and_intros
  all_goals
    refine exec_reset_get hexec ?_
    simp [State.resetWrites, State.loadedTrim_eq s, persistPeriod]

end Sys2Proof.Proofs
end

section
/-! SUPPORT. The byte order of a non-volatile read (R62), and that no operation's outcome holds other
contents of the non-volatile space (R64). -/

namespace Sys2Proof.Machine

/-- `MemRead` is the sum that R62 writes. -/
theorem memRead_eq_sum (m : Memory) (addr n : Nat) :
    memRead m addr n = ∑ i ∈ Finset.range n, (Memory.read m (addr + i)).toNat * 256 ^ i := by
  induction n with
  | zero => rfl
  | succ n ih => rw [memRead, ih, Finset.sum_range_succ]

/-- A read of two bytes: the first is the low one (R62). -/
theorem memRead_two (m : Memory) (addr : Nat) :
    memRead m addr 2 = (Memory.read m addr).toNat + 256 * (Memory.read m (addr + 1)).toNat := by
  simp [memRead_eq_sum, Finset.sum_range_succ, Nat.mul_comm]

/-- The trim under `TRIM_EN = 1`, from the two bytes of the slot (R28, R62). -/
theorem State.loadedTrim_of_trimEn {s : State} (h : s.cfg.trimEn = true) :
    s.loadedTrim = sext 16 ((Memory.read s.nv 4).toNat + 256 * (Memory.read s.nv 5).toNat) := by
  rw [State.loadedTrim_eq, if_pos h, memRead_two]

/-- Writes are to elements, so they leave the non-volatile space; fault entry is a `commit` too. -/
theorem commit_next_nv {s t : State} {ws : Writes} (h : commit s ws = .next t) : t.nv = s.nv := by
  rw [(commit_next h).1, State.putAll_nv]

/-- The events of a MATCH are not in the non-volatile space. -/
@[simp] theorem State.matchEvents_nv (s : State) : s.matchEvents.nv = s.nv := by
  unfold State.matchEvents
  split <;> simp

/-- A TCLK leaves the non-volatile space. -/
theorem exec_tclk_nv {s t : State} (h : exec .tclk s = .next t) : t.nv = s.nv := by
  rcases exec_tclk_cases s with ⟨-, he⟩ | ⟨-, -, he⟩ | ⟨-, -, -, he⟩ | ⟨-, -, -, he⟩ <;> rw [he] at h
  case inl => cases h; rfl
  case inr.inl => exact commit_next_nv h
  case inr.inr.inl => exact commit_next_nv h
  case inr.inr.inr => rw [commit_next_nv h, State.matchEvents_nv]

/-- A CONSUME leaves the non-volatile space; the event PersistReq asks the Seed Store to write (R64). -/
theorem exec_consume_nv {s t : State} (h : exec .consume s = .next t) : t.nv = s.nv := by
  rcases exec_consume_cases s with ⟨-, he⟩ | ⟨-, -, he⟩ | ⟨-, -, he⟩ <;> rw [he] at h
  case inl => cases h; simp
  case inr.inl => rw [commit_next_nv h, State.accept_nv]
  case inr.inr =>
    rw [commit_next_nv h]
    split <;> simp

/-- A SLEEP leaves the non-volatile space. -/
theorem exec_sleep_nv {s t : State} (h : exec .sleep s = .next t) : t.nv = s.nv := by
  rcases exec_sleep_cases s with ⟨-, he⟩ | ⟨-, he⟩ <;> rw [he] at h
  case inl => cases h; simp
  case inr => rw [commit_next_nv h, State.accept_nv]

/-- RESET reads the trim slot and leaves the non-volatile space (R63, R64). -/
theorem exec_reset_nv {s t : State} (h : exec .reset s = .next t) : t.nv = s.nv := by
  rw [commit_next_nv (exec_reset_next h).2, State.driveNv_nv]

/-- Every operation that answers leaves the contents of the non-volatile space (R64). -/
theorem exec_next_nv {i : Instr} {s t : State} (h : exec i s = .next t) : t.nv = s.nv := by
  cases i with
  | idle => cases h; rfl
  | reset => exact exec_reset_nv h
  | tclk => exact exec_tclk_nv h
  | consume => exact exec_consume_nv h
  | sleep => exact exec_sleep_nv h

end Sys2Proof.Machine
end

section
/-! The statements of 20_memory.md. -/

open Sys2Proof Sys2Proof.Machine

namespace Sys2Proof.Proofs

/-- Settles O12: R62's sum by induction on the length of the read, its case of two bytes for the trim,
and R62's own example. -/
theorem nonVolatileReadIsLittleEndian : Obligations.NonVolatileReadIsLittleEndian := by
  unfold Obligations.NonVolatileReadIsLittleEndian
  exact ⟨memRead_eq_sum, fun _ h => State.loadedTrim_of_trimEn h, by decide⟩

/-- Settles O28: every operation leaves the list of stored bytes, and so what each offset reads as. -/
theorem nonVolatileSpaceIsNeverWritten : Obligations.NonVolatileSpaceIsNeverWritten := by
  unfold Obligations.NonVolatileSpaceIsNeverWritten
  intro i s t h
  have hnv : t.nv = s.nv := exec_next_nv h
  exact ⟨hnv, fun a => by rw [hnv]⟩

end Sys2Proof.Proofs
end

section
/-! SUPPORT. What the decoder refuses (R84), and that no operation refuses anything but a trim (R113). -/

namespace Sys2Proof.Machine

/-- What decodes is not reserved: the operations of R82 are none of R84's words. -/
theorem reserved_of_decode_ok {w : OpWord} {i : Instr} (h : decode w = .ok i) :
    OpWord.reserved w = false := by
  rcases decode_ok_cases h with ⟨rfl, -⟩ | ⟨rfl, -⟩ | ⟨rfl, -⟩ | ⟨rfl, -⟩ | ⟨rfl, -⟩ <;> decide

/-- The words beside R82's five are R84's eleven. -/
theorem reserved_of_ne {w : OpWord} (h0 : w ≠ 0x0#4) (h1 : w ≠ 0x1#4) (h4 : w ≠ 0x4#4)
    (h8 : w ≠ 0x8#4) (h9 : w ≠ 0x9#4) : OpWord.reserved w = true := by
  revert w
  decide

/-- What does not decode is reserved, and the decoder names the word itself. -/
theorem decode_error {w v : OpWord} (h : decode w = .error (.reserved v)) :
    v = w ∧ OpWord.reserved w = true := by
  unfold decode at h
  split_ifs at h with h0 h1 h4 h8 h9
  cases h
  exact ⟨rfl, reserved_of_ne h0 h1 h4 h8 h9⟩

/-- R84's list, written out. -/
theorem OpWord.reserved_iff {w : OpWord} : OpWord.reserved w = true ↔
    w = 0x2#4 ∨ w = 0x3#4 ∨ w = 0x5#4 ∨ w = 0x6#4 ∨ w = 0x7#4 ∨ w = 0xA#4 ∨ w = 0xB#4 ∨
      w = 0xC#4 ∨ w = 0xD#4 ∨ w = 0xE#4 ∨ w = 0xF#4 := by
  simp [OpWord.reserved]

/-- Fault entry is no refusal (R193). -/
theorem raiseFault_not_refused {s : State} {f : FaultCause} {r : Refusal} :
    raiseFault f s ≠ .refused r := by
  simp [raiseFault_eq]

/-- The one refusal among the operations: RESET of a trim outside R113's range (R161). -/
theorem exec_refused {i : Instr} {s : State} {r : Refusal} (h : exec i s = .refused r) :
    i = .reset ∧ s.cfg.trimLegal s.loadedTrim = false ∧ r = .trimOutOfRange := by
  cases i with
  | idle => cases h
  | reset =>
    simp only [exec, execReset] at h
    split at h
    case isTrue => exact absurd h commit_not_refused
    case isFalse ht =>
      cases h
      exact ⟨rfl, by simpa using ht, rfl⟩
  | tclk =>
    rcases exec_tclk_cases s with ⟨-, he⟩ | ⟨-, -, he⟩ | ⟨-, -, -, he⟩ | ⟨-, -, -, he⟩ <;> rw [he] at h
    case inl => cases h
    case inr.inl => exact absurd h commit_not_refused
    case inr.inr.inl => exact absurd h raiseFault_not_refused
    case inr.inr.inr => exact absurd h commit_not_refused
  | consume =>
    rcases exec_consume_cases s with ⟨-, he⟩ | ⟨-, -, he⟩ | ⟨-, -, he⟩ <;> rw [he] at h
    case inl => cases h
    case inr.inl => exact absurd h raiseFault_not_refused
    case inr.inr => exact absurd h commit_not_refused
  | sleep =>
    rcases exec_sleep_cases s with ⟨-, he⟩ | ⟨-, he⟩ <;> rw [he] at h
    case inl => cases h
    case inr => exact absurd h commit_not_refused

/-- A step on a word that does not decode refuses it (R84). -/
theorem step_of_decode_error {s : State} {w v : OpWord} {rest : List OpWord}
    (hl : s.cfg.legal = true) (hw : s.words = w :: rest) (hd : decode w = .error (.reserved v)) :
    step s = .refused (.reservedWord v) := by
  simp [step, hl, State.fetch, hw, hd]

/-- A step on a word that decodes is `exec` of the operation, or the refusal of the trim held (R113). -/
theorem step_of_decode_ok {s : State} {w : OpWord} {rest : List OpWord} {i : Instr}
    (hl : s.cfg.legal = true) (hw : s.words = w :: rest) (hd : decode w = .ok i) :
    (s.admits i = true ∧ step s = exec i (s.present rest)) ∨
      (s.admits i = false ∧ step s = .refused .trimOutOfRange) := by
  cases ha : s.admits i with
  | true => exact .inl ⟨rfl, step_eq_exec hl hw hd ha⟩
  | false => exact .inr ⟨rfl, by simp [step, hl, State.fetch, hw, hd, ha]⟩

/-- A word that decodes is never refused as a reserved one. -/
theorem step_not_reservedWord_of_decode_ok {s : State} {w v : OpWord} {rest : List OpWord} {i : Instr}
    (hl : s.cfg.legal = true) (hw : s.words = w :: rest) (hd : decode w = .ok i) :
    step s ≠ .refused (.reservedWord v) := by
  intro h
  rcases step_of_decode_ok hl hw hd with ⟨-, he⟩ | ⟨-, he⟩ <;> rw [he] at h
  · obtain ⟨-, -, hr⟩ := exec_refused h
    cases hr
  · cases h

end Sys2Proof.Machine
end

section
/-! The statements of 30_encoding.md. -/

open Sys2Proof Sys2Proof.Machine

namespace Sys2Proof.Proofs

/-- Settles O6: a word decodes or is on R84's list; `step` refuses the one on the list, and no operation
refuses a reserved word. -/
theorem reservedWordIsRefused : Obligations.ReservedWordIsRefused := by
  unfold Obligations.ReservedWordIsRefused
  intro s w rest hl hw
  rw [← OpWord.reserved_iff]
  match hd : decode w with
  | .ok i => simp [reserved_of_decode_ok hd, step_not_reservedWord_of_decode_ok hl hw hd]
  | .error (.reserved v) =>
    obtain ⟨rfl, hr⟩ := decode_error hd
    simp [hr, step_of_decode_error hl hw hd]

end Sys2Proof.Proofs
end

section
/-! SUPPORT. The trims that RESET refuses (R113, R161). -/

namespace Sys2Proof.Machine

/-- R113's range of a trim, from the legality that asks for both nominal compare values. -/
theorem trimLegal_iff_range {c : Config} {t : Int} (h : c.trimEn = true) :
    c.trimLegal t = true ↔ -(c.base : Int) ≤ t ∧ t ≤ 2 ^ c.cmpW - 2 - c.base := by
  have hmax : (maxOf c.cmpW : Int) + 1 = 2 ^ c.cmpW := by exact_mod_cast maxOf_succ c.cmpW
  simp only [Config.trimLegal_iff, h, forall_const]
  omega

/-- RESET refuses the loaded trims that are not legal, and no other (R161). -/
theorem exec_reset_trimOutOfRange_iff {s : State} :
    exec .reset s = .refused .trimOutOfRange ↔ ¬ s.cfg.trimLegal s.loadedTrim = true := by
  constructor
  · intro h
    obtain ⟨-, ht, -⟩ := exec_refused h
    simp [ht]
  · intro h
    simp [exec, execReset, h]

end Sys2Proof.Machine
end

section
/-! SUPPORT. The MATCH of a state of the invariant: each of its writes is in its register's range, and the
state it leaves, in naturals (R101 to R106, R110). -/

namespace Sys2Proof.Machine

/-- The two things the TCLK at the compare value can do (R101, R102). -/
theorem exec_tclk_at_match {s : State} (hh : s.halted = false) (hm : s.timerCount = s.compareValue) :
    (s.overflows = true ∧ exec .tclk s = raiseFault .backlogOverflow s) ∨
      (s.overflows = false ∧ exec .tclk s = commit s.matchEvents s.matchWrites) := by
  rcases exec_tclk_cases s with ⟨h, -⟩ | ⟨-, h, -⟩ | ⟨-, -, h⟩ | ⟨-, -, h⟩
  · simp [hh] at h
  · exact absurd hm h
  · exact .inl h
  · exact .inr h

/-- The tick that cannot be counted (R102). -/
theorem State.overflows_iff {s : State} :
    s.overflows = true ↔ s.owed = false ∧ s.backlog = s.cfg.backlogMax := by
  simp [State.overflows]

/-- Fault entry with no fault latched: the cause, the halt and the debug line (R193). -/
theorem raiseFault_of_no_cause {s : State} (h : s.faultCause = 0#2) (f : FaultCause) :
    raiseFault f s = .next { s with
      faultCause := BitVec.ofNat 2 f.code.toNat, halted := true, dbgOut := s.cfg.debugLockupEn } := by
  simp [raiseFault_eq, h]

/-- A legal configuration's base value fits the compare register with room for the long one (R7 (b)). -/
theorem State.Inv.base_succ_le {s : State} (hi : s.Inv) : s.cfg.base + 1 ≤ maxOf s.cfg.cmpW := by
  obtain ⟨-, hb, -⟩ := Config.legal_iff.mp hi.legal
  exact hb

/-- The pattern has two compare values (R111). -/
theorem nominalAt_cases (c : Config) (pos : Nat) :
    c.nominalAt pos = c.base + 1 ∨ c.nominalAt pos = c.base := by
  unfold Config.nominalAt
  split <;> simp

/-- The next nominal compare value is one of the pattern's two (R104, R111). -/
theorem State.Inv.nextNominal_cases {s : State} (hi : s.Inv) :
    s.nextNominal = s.cfg.base + 1 ∨ s.nextNominal = s.cfg.base := by
  unfold State.nextNominal
  split_ifs
  · exact .inl rfl
  · exact .inr rfl
  · rw [hi.nominal]
    exact_mod_cast nominalAt_cases s.cfg s.cyclePosition

/-- The compare value of a state of the invariant fits its register, corrected or not (R46 (d), R113). -/
theorem State.Inv.compareValue_le {s : State} (hi : s.Inv) : s.compareValue ≤ maxOf s.cfg.cmpW := by
  have hb := hi.base_succ_le
  have hn := nominalAt_cases s.cfg s.cyclePosition
  rw [← hi.nominal] at hn
  rcases hi.compare with h | ⟨he, h⟩
  · omega
  · have := Config.trimLegal_iff.mp hi.trimLegal he
    omega

/-- A correction falls due only when trim is enabled (R105). -/
theorem State.trimEn_of_trimDue {s : State} (h : s.trimDue = true) : s.cfg.trimEn = true := by
  simp only [State.trimDue, Bool.and_eq_true] at h
  exact h.1

/-- The next compare value fits its register: the trim is in R113's range. -/
theorem State.Inv.nextCompare_fits {s : State} (hi : s.Inv) :
    Reg.compareValue.fits s.cfg s.nextCompare = true := by
  have hb := hi.base_succ_le
  have hn := hi.nextNominal_cases
  rw [Reg.fits_unsigned rfl, Reg.width]
  unfold State.nextCompare
  split
  next hdue =>
    have := Config.trimLegal_iff.mp hi.trimLegal (State.trimEn_of_trimDue hdue)
    omega
  next => omega

/-- The next nominal compare value fits its register (R7 (b)). -/
theorem State.Inv.nextNominal_fits {s : State} (hi : s.Inv) :
    Reg.nominalCompare.fits s.cfg s.nextNominal = true := by
  have hb := hi.base_succ_le
  have hn := hi.nextNominal_cases
  rw [Reg.fits_unsigned rfl, Reg.width]
  omega

/-- The next position is one of the pattern's (R104). -/
theorem State.Inv.nextPosition_fits {s : State} (hi : s.Inv) :
    Reg.cyclePosition.fits s.cfg s.nextPosition = true := by
  obtain ⟨⟨-, -, hw⟩, -⟩ := Config.legal_iff.mp hi.legal
  have hp := hi.position
  rw [Reg.fits_unsigned rfl, Reg.width]
  unfold State.nextPosition
  split <;> omega

/-- One interval is no longer than the quantum (log 9), so one subtraction brings the accumulator below it
again (R105). -/
theorem State.Inv.nextAcc_bounds {s : State} (hi : s.Inv) :
    0 ≤ s.nextAcc ∧ s.nextAcc < trimQuantum := by
  have ha := hi.accBound
  have hc := hi.compareValue_le
  have hq := hi.shortClock
  rw [← maxOf_succ] at hq
  unfold State.nextAcc State.trimDue State.accumulated
  cases s.cfg.trimEn with
  | false => simpa using ha
  | true =>
    simp only [Bool.true_and, decide_eq_true_eq, if_true]
    split <;> omega

/-- With trim enabled the accumulator fits its register (U4). -/
theorem State.Inv.nextAcc_fits {s : State} (hi : s.Inv) (he : s.cfg.trimEn = true) :
    Reg.acc.fits s.cfg s.nextAcc = true := by
  obtain ⟨-, -, -, hw⟩ := Config.legal_iff.mp hi.legal
  have hw := hw he
  have ha := hi.nextAcc_bounds
  rw [Reg.fits_unsigned rfl, Reg.width]
  omega

/-- The tick that is banked is in range unless it overflows (R102, R106). -/
theorem State.Inv.bankTick_fits {s : State} (hi : s.Inv) (ho : s.overflows = false) :
    ∀ w ∈ s.bankTick, w.1.fits s.cfg w.2 = true := by
  unfold State.bankTick
  cases h : s.owed with
  | true => simp [Reg.fits_zero]
  | false =>
    have hne : s.backlog ≠ s.cfg.backlogMax := by simpa [State.overflows, h] using ho
    have hle : s.backlog ≤ maxOf s.cfg.backlogW := hi.backlogMax
    rw [Config.backlogMax] at hne
    simp only [Bool.false_eq_true, if_false, List.forall_mem_singleton]
    rw [Reg.fits_unsigned rfl, Reg.width]
    omega

/-- Every write of a MATCH that does not overflow is in its register's range (R9). -/
theorem State.Inv.matchWrites_fit {s : State} (hi : s.Inv) (ho : s.overflows = false) :
    ∀ w ∈ s.matchWrites, w.1.fits s.cfg w.2 = true := by
  have hwake : ∀ w ∈ s.wakeWrites, w.1.fits s.cfg w.2 = true := by
    unfold State.wakeWrites
    split <;> simp [Reg.fits_zero]
  have hacc : ∀ w ∈ (if s.cfg.trimEn then [(Reg.acc, s.nextAcc)] else []),
      w.1.fits s.cfg w.2 = true := by
    split
    next he => simpa using hi.nextAcc_fits he
    next => simp
  simp only [State.matchWrites, List.forall_mem_append, List.forall_mem_cons, Reg.fits_zero,
    hi.nextPosition_fits, hi.nextNominal_fits, hi.nextCompare_fits, true_and]
  exact ⟨⟨⟨hi.bankTick_fits ho, hwake⟩, by simp⟩, hacc⟩

/-- The events of a MATCH are all it does outside its writes (R110). -/
theorem State.matchEvents_eq (s : State) :
    s.matchEvents = { s with out := { s.out with tick := true, wake := s.out.wake || s.sleeping } } := by
  unfold State.matchEvents
  cases hs : s.sleeping <;> simp [State.emitTick, State.emitWake, hs]

/-- Without trim the accumulator stays (R103). -/
theorem State.nextAcc_of_no_trim {s : State} (h : s.cfg.trimEn = false) : s.nextAcc = s.acc := by
  simp [State.nextAcc, State.trimDue, State.accumulated, h]

/-- The state after a MATCH that does not fault (R101): what its events and writes make, by
`State.putAll_matchWrites`. -/
def State.matched (s : State) : State :=
  { s with
    timerCount := 0, cyclePosition := s.nextPosition.toNat, nominalCompare := s.nextNominal.toNat,
    compareValue := s.nextCompare.toNat, acc := s.nextAcc.toNat,
    backlog := if s.owed then s.backlog else s.backlog + 1, owed := false, sleeping := false,
    out := { s.out with tick := true, wake := s.out.wake || s.sleeping } }

/-- What a MATCH makes, said once for every state: each Boolean picks one branch of its writes. -/
theorem State.putAll_matchWrites (s : State) : s.matchEvents.putAll s.matchWrites = s.matched := by
  rw [State.matchEvents_eq]
  unfold State.matched State.matchWrites State.bankTick State.wakeWrites
  cases he : s.cfg.trimEn with
  | false => cases s.owed <;> cases s.sleeping <;> simp [State.nextAcc_of_no_trim he]
  | true => cases s.owed <;> cases s.sleeping <;> simp

/-- Where a MATCH that does not overflow answers, it leaves `State.matched`, in any state. -/
theorem commit_matchWrites_next {s t : State} (h : commit s.matchEvents s.matchWrites = .next t) :
    t = s.matched :=
  (commit_next h).1.trans s.putAll_matchWrites

/-- The TCLK at the compare value of a running machine of the invariant: the overflow fault with none of
the sub-steps, or all of them (R101, R102). -/
theorem State.Inv.exec_tclk_match {s : State} (hi : s.Inv) (hh : s.halted = false)
    (hm : s.timerCount = s.compareValue) :
    (s.overflows = true ∧ exec .tclk s = .next { s with
      faultCause := 2#2, halted := true, dbgOut := s.cfg.debugLockupEn }) ∨
      (s.overflows = false ∧ exec .tclk s = .next s.matched) := by
  have hc : s.faultCause = 0#2 := by
    by_contra hne
    simp [hi.haltedCause.mpr hne] at hh
  rcases exec_tclk_at_match hh hm with ⟨ho, he⟩ | ⟨ho, he⟩
  · exact .inl ⟨ho, he.trans (raiseFault_of_no_cause hc _)⟩
  · refine .inr ⟨ho, he.trans ?_⟩
    rw [commit_of_fits, State.putAll_matchWrites]
    simpa [State.matchEvents_eq] using hi.matchWrites_fit ho

/-- `pos'` in naturals (R104). -/
theorem State.nextPosition_eq (s : State) : s.nextPosition =
    ((if s.cyclePosition + 1 = s.cfg.cycles then 0 else s.cyclePosition + 1 : Nat) : Int) := by
  simp [State.nextPosition]

/-- `nom'` in naturals (R104). -/
theorem State.nextNominal_eq (s : State) : s.nextNominal =
    ((if s.cyclePosition + 1 = s.cfg.cycles then s.cfg.base + 1
      else if s.cyclePosition + 1 = s.cfg.longCycles then s.cfg.base else s.nominalCompare : Nat) : Int) := by
  simp [State.nextNominal]

/-- `acc'` in naturals (R103). -/
theorem State.accumulated_eq (s : State) : s.accumulated =
    ((if s.cfg.trimEn then s.acc + (s.compareValue + 1) else s.acc : Nat) : Int) := by
  simp [State.accumulated]

/-- The test for the quantum in naturals (R105). -/
theorem State.trimDue_eq (s : State) : s.trimDue = (s.cfg.trimEn &&
    decide (10000000 ≤ if s.cfg.trimEn then s.acc + (s.compareValue + 1) else s.acc)) := by
  rw [State.trimDue, State.accumulated_eq, trimQuantum]
  simp only [Nat.cast_le]

/-- The compare value that a MATCH leaves is the nominal one, corrected when a correction is due (R105). -/
theorem State.Inv.matched_compareValue {s : State} (hi : s.Inv) : (s.matched.compareValue : Int) =
    if s.trimDue then s.matched.nominalCompare + s.trimOffset else s.matched.nominalCompare := by
  obtain ⟨hc, -⟩ := (Reg.fits_unsigned rfl).mp hi.nextCompare_fits
  obtain ⟨hn, -⟩ := (Reg.fits_unsigned rfl).mp hi.nextNominal_fits
  simp only [State.matched, Int.toNat_of_nonneg hc, Int.toNat_of_nonneg hn]
  rfl

/-- The accumulator that a MATCH leaves is below the quantum: the accumulated time, or its remainder
(R105). -/
theorem State.Inv.matched_acc {s : State} (hi : s.Inv) : s.matched.acc < trimQuantum ∧
    (s.matched.acc : Int) = if s.trimDue then s.accumulated - trimQuantum else s.accumulated := by
  obtain ⟨hz, hq⟩ := hi.nextAcc_bounds
  have h : (s.matched.acc : Int) = s.nextAcc := Int.toNat_of_nonneg hz
  exact ⟨by omega, h⟩

end Sys2Proof.Machine
end

section
/-! The statements of 40_tick_generator.md. -/

open Sys2Proof Sys2Proof.Machine

namespace Sys2Proof.Proofs

/-- Settles O11: RESET refuses exactly the loaded trims that are not legal, and legality is R113's range. -/
theorem resetRefusesTrimOutOfRange : Obligations.ResetRefusesTrimOutOfRange := by
  unfold Obligations.ResetRefusesTrimOutOfRange
  intro s he
  rw [exec_reset_trimOutOfRange_iff, trimLegal_iff_range he, State.loadedTrim_eq, if_pos he]

/-- Settles O16: the two cases of `State.Inv.exec_tclk_match`, with the values that the sub-steps
compute over the integers read as naturals. -/
theorem matchPerformsItsSubsteps : Obligations.MatchPerformsItsSubsteps := by
  unfold Obligations.MatchPerformsItsSubsteps
  intro s hi hh hm
  rcases hi.exec_tclk_match hh hm with ⟨ho, he⟩ | ⟨ho, he⟩
  · rw [he, if_pos (State.overflows_iff.mp ho)]
  · have hno : ¬ (s.owed = false ∧ s.backlog = s.cfg.backlogMax) := by
      simp [← State.overflows_iff, ho]
    have hcompare : s.nextCompare.toNat = if s.trimDue then (s.nextNominal + s.trimOffset).toNat
        else s.nextNominal.toNat := by
      rw [State.nextCompare, apply_ite Int.toNat]
    have hacc : s.nextAcc.toNat = if s.trimDue then s.accumulated.toNat - 10000000
        else s.accumulated.toNat := by
      rw [State.nextAcc, apply_ite Int.toNat, Int.toNat_sub']
      rfl
    rw [he, if_neg hno, State.matched, hcompare, hacc, State.trimDue_eq, State.nextPosition_eq,
      State.nextNominal_eq, State.accumulated_eq]
    rfl

/-- Settles O17: a full backlog with nothing owed is fault entry; with a unit owed the MATCH's writes are
made, and `State.matched` has the old `halted` and `fault_cause`. -/
theorem overflowStopsTheMatch : Obligations.OverflowStopsTheMatch := by
  unfold Obligations.OverflowStopsTheMatch
  intro s hh hm
  rcases exec_tclk_at_match hh hm with ⟨ho, he⟩ | ⟨ho, he⟩
  · obtain ⟨howed, -⟩ := State.overflows_iff.mp ho
    refine ⟨fun _ _ hc => he.trans (raiseFault_of_no_cause hc _), ?_⟩
    simp [howed]
  · refine ⟨fun h0 hb => ?_, fun _ t ht => ?_⟩
    · simp [State.overflows_iff.mpr ⟨h0, hb⟩] at ho
    · rw [he] at ht
      obtain rfl := commit_matchWrites_next ht
      exact ⟨hh, rfl⟩

/-- Settles O18: a MATCH that leaves the machine running leaves `State.matched`; whether a correction is
due there is R105's test. -/
theorem trimCorrectsOneInterval : Obligations.TrimCorrectsOneInterval := by
  unfold Obligations.TrimCorrectsOneInterval
  intro s t hi hh hm ht hrun
  rcases hi.exec_tclk_match hh hm with ⟨-, he⟩ | ⟨-, he⟩
  all_goals obtain rfl := Host.Outcome.next.inj (he.symm.trans ht)
  · cases hrun
  · obtain ⟨hlt, hacc⟩ := hi.matched_acc
    have hcompare := hi.matched_compareValue
    rw [State.accumulated_eq, State.trimDue_eq] at hacc
    rw [State.trimDue_eq] at hcompare
    rw [trimQuantum] at hlt hacc
    refine ⟨fun hen => ?_, fun hen hlow => ?_, fun hen hhigh => ?_⟩
    · simp only [hen, Bool.false_and, Bool.false_eq_true, if_false] at hacc hcompare
      omega
    · simp only [hen, Bool.true_and, if_true, decide_eq_true_eq, if_neg (not_le.mpr hlow)] at hacc hcompare
      omega
    · simp only [hen, Bool.true_and, if_true, decide_eq_true_eq, if_pos hhigh] at hacc hcompare
      omega

end Sys2Proof.Proofs
end

section
/-! SUPPORT. What an accepted CONSUME leaves: fault entry when a unit is owed (R135), and otherwise the
countdown, the snapshot and the decrement together (R132 to R134). -/

namespace Sys2Proof.Machine

/-- The state after fault entry (R193), whatever cause is latched: what its writes make, by
`raiseFault_next_faulted`. -/
def State.faulted (s : State) (f : FaultCause) : State :=
  { s with
    faultCause := if s.faultCause = 0#2 then BitVec.ofNat 2 f.code.toNat else s.faultCause,
    halted := true, dbgOut := s.cfg.debugLockupEn }

/-- Fault entry completes in every state; a cause latched before stays (R193). -/
theorem raiseFault_next_faulted (f : FaultCause) (s : State) :
    raiseFault f s = .next (s.faulted f) := by
  by_cases h : s.faultCause = 0#2
  · rw [raiseFault_of_no_cause h, State.faulted, if_pos h]
  · simp [raiseFault_eq, State.faulted, h]

/-- An accepted CONSUME faults when a unit is owed already (R135). -/
theorem exec_consume_of_owed {s : State} (hr : s.ready = true) (ho : s.owed = true) :
    exec .consume s = raiseFault .backlogUnderflow (s.accept .consume) := by
  rcases exec_consume_cases s with ⟨hn, -⟩ | ⟨-, -, he⟩ | ⟨-, hn, -⟩
  · simp [hr] at hn
  · exact he
  · simp [ho] at hn

/-- The state in which an accepted CONSUME makes its writes: it waits no more, and `PersistReq` is emitted
when the countdown reaches zero (R131, R133). -/
def State.consumeEvents (s : State) : State :=
  if s.persistDue then (s.accept .consume).emitPersistReq else s.accept .consume

/-- The writes of an accepted CONSUME that does not fault (R132). -/
def State.consumeWrites (s : State) : Writes :=
  [(.persistCnt, s.nextPersist), (.snap, s.backlog)] ++ s.takeUnit

/-- An accepted CONSUME commits its writes when no unit is owed (R132). -/
theorem exec_consume_of_not_owed {s : State} (hr : s.ready = true) (ho : s.owed = false) :
    exec .consume s = commit s.consumeEvents s.consumeWrites := by
  rcases exec_consume_cases s with ⟨hn, -⟩ | ⟨-, hn, -⟩ | ⟨-, -, he⟩
  · simp [hr] at hn
  · simp [ho] at hn
  · exact he

/-- The acceptance and the event of a CONSUME are no elements. -/
@[simp] theorem State.consumeEvents_get (s : State) (r : Reg) : s.consumeEvents.get r = s.get r := by
  unfold State.consumeEvents
  split <;> simp

/-- All that a CONSUME does outside its writes (R131, R133). -/
theorem State.consumeEvents_eq (s : State) : s.consumeEvents =
    { s.accept .consume with
      out := { s.out with persistReq := s.out.persistReq || s.persistDue } } := by
  unfold State.consumeEvents
  cases s.persistDue <;> simp [State.emitPersistReq, State.accept]

/-- The elements of R38's column CONSUME are all that its writes name. -/
theorem State.consumeWrites_written (s : State) :
    ∀ w ∈ s.consumeWrites, w.1 ∈ [Reg.persistCnt, .snap, .backlog, .owed] := by
  unfold State.consumeWrites State.takeUnit
  split <;> simp

/-- The countdown reaches zero from 1 and from no other value (R133). -/
theorem State.persistDue_eq (s : State) : s.persistDue = decide (s.persistCnt = 1) := by
  unfold State.persistDue State.countdown
  exact decide_eq_decide.mpr (by omega)

/-- The countdown after a CONSUME in naturals (R133). -/
theorem State.nextPersist_eq {s : State} (h : 1 ≤ s.persistCnt) : s.nextPersist =
    ((if s.persistCnt = 1 then 864000 else s.persistCnt - 1 : Nat) : Int) := by
  simp only [State.nextPersist, State.persistDue_eq, State.countdown, persistPeriod, decide_eq_true_eq]
  split <;> omega

/-- The new countdown fits its register: it is at most the reload value (R133, U4). -/
theorem State.nextPersist_fits {s : State} (h1 : 1 ≤ s.persistCnt) (hp : s.persistCnt ≤ persistPeriod)
    (hw : persistPeriod ≤ maxOf s.cfg.pcntW) : Reg.persistCnt.fits s.cfg s.nextPersist = true := by
  rw [Reg.fits_unsigned rfl, Reg.width, State.nextPersist_eq h1]
  rw [persistPeriod] at hp hw
  split <;> omega

/-- A backlog in range fits `snap`, which has the same width (R29, R33). -/
theorem State.backlog_fits_snap {s : State} (hb : s.backlog ≤ s.cfg.backlogMax) :
    Reg.snap.fits s.cfg s.backlog = true :=
  (Reg.fits_unsigned rfl).mpr ⟨Int.natCast_nonneg _, by exact_mod_cast hb⟩

/-- The decrement of an effective backlog in range is in range (R134). -/
theorem State.takeUnit_fits {s : State} (hb : s.backlog ≤ s.cfg.backlogMax) :
    ∀ w ∈ s.takeUnit, w.1.fits s.cfg w.2 = true := by
  unfold State.takeUnit
  split
  next =>
    obtain ⟨howed, -⟩ := Reg.fits_one_bit (c := s.cfg) true
    simpa using howed
  next hne =>
    rw [Config.backlogMax] at hb
    simp only [List.forall_mem_singleton]
    rw [Reg.fits_unsigned rfl, Reg.width]
    omega

/-- Every write of a CONSUME is in its register's range (R9). -/
theorem State.consumeWrites_fit {s : State} (h1 : 1 ≤ s.persistCnt)
    (hp : s.persistCnt ≤ persistPeriod) (hw : persistPeriod ≤ maxOf s.cfg.pcntW)
    (hb : s.backlog ≤ s.cfg.backlogMax) : ∀ w ∈ s.consumeWrites, w.1.fits s.cfg w.2 = true := by
  simp only [State.consumeWrites, List.forall_mem_append, List.forall_mem_cons,
    State.nextPersist_fits h1 hp hw, State.backlog_fits_snap hb, true_and]
  exact ⟨by simp, State.takeUnit_fits hb⟩

/-- The state after an accepted CONSUME that does not fault (R132): what its events and writes make, by
`State.putAll_consumeWrites`. With nothing left to take, the unit is owed (R134). -/
def State.consumed (s : State) : State :=
  { s.accept .consume with
    persistCnt := s.nextPersist.toNat, snap := s.backlog,
    owed := s.owed || decide (s.backlog = 0), backlog := s.backlog - 1,
    out := { s.out with persistReq := s.out.persistReq || s.persistDue } }

/-- What a CONSUME makes, said once for every state: one branch per side of R134's test. -/
theorem State.putAll_consumeWrites (s : State) :
    s.consumeEvents.putAll s.consumeWrites = s.consumed := by
  rw [State.consumeEvents_eq]
  unfold State.consumed State.consumeWrites State.takeUnit
  by_cases h : s.backlog = 0
  · simp [h]
  · have hsub : ((s.backlog : Int) - 1).toNat = s.backlog - 1 := by omega
    simp [h, hsub]

/-- An accepted CONSUME with no unit owed completes and leaves `State.consumed` (R132). -/
theorem exec_consume_next {s : State} (hr : s.ready = true) (ho : s.owed = false)
    (h1 : 1 ≤ s.persistCnt) (hp : s.persistCnt ≤ persistPeriod)
    (hw : persistPeriod ≤ maxOf s.cfg.pcntW) (hb : s.backlog ≤ s.cfg.backlogMax) :
    exec .consume s = .next s.consumed := by
  rw [exec_consume_of_not_owed hr ho, commit_of_fits, State.putAll_consumeWrites]
  simpa [State.consumeEvents_eq] using State.consumeWrites_fit h1 hp hw hb

/-- A CONSUME leaves the elements outside its column of R38. -/
theorem State.consumed_get_of_unwritten {s : State} {r : Reg}
    (hr : r ∉ [Reg.persistCnt, .snap, .backlog, .owed]) : s.consumed.get r = s.get r := by
  rw [← State.putAll_consumeWrites, State.putAll_get_of_unwritten, State.consumeEvents_get]
  exact fun w hw e => hr (e ▸ s.consumeWrites_written w hw)

/-- The unit that a CONSUME takes comes from `backlog` while there is one, and is owed otherwise (R134). -/
theorem State.consumed_unit {s : State} (ho : s.owed = false) :
    (s.backlog = 0 → s.consumed.owed = true ∧ s.consumed.backlog = 0) ∧
      (0 < s.backlog → s.consumed.owed = false ∧ s.consumed.backlog + 1 = s.backlog) := by
  simp only [State.consumed, ho, Bool.false_or, decide_eq_true_eq, decide_eq_false_iff_not]
  omega

/-- A CONSUME that does not fault lowers the effective backlog by exactly 1 (R31, R134). -/
theorem State.consumed_effectiveBacklog {s : State} (ho : s.owed = false) :
    s.consumed.effectiveBacklog = s.effectiveBacklog - 1 := by
  obtain ⟨hzero, hpos⟩ := State.consumed_unit ho
  rcases Nat.eq_zero_or_pos s.backlog with h | h
  · obtain ⟨ht, hb⟩ := hzero h
    simp [State.effectiveBacklog, ht, hb, ho, h]
  · obtain ⟨ht, hb⟩ := hpos h
    simp only [State.effectiveBacklog, ht, ho]
    omega

end Sys2Proof.Machine
end

section
/-! The statements of 41_backlog_sleep.md. -/

open Sys2Proof Sys2Proof.Machine

namespace Sys2Proof.Proofs

/-- Settles O51: with a unit owed the CONSUME is fault entry, which leaves `State.faulted`; with none it
leaves `State.consumed`, whose fields are the values asked for. -/
theorem acceptedConsumeTakesOneTick : Obligations.AcceptedConsumeTakesOneTick := by
  unfold Obligations.AcceptedConsumeTakesOneTick
  intro s hr h1 hp hw hb
  cases ho : s.owed with
  | true =>
    have hfault := raiseFault_next_faulted .backlogUnderflow (s.accept .consume)
    refine ⟨_, (exec_consume_of_owed hr ho).trans hfault, rfl, rfl,
      fun _ => ⟨rfl, rfl, fun hc => if_pos hc, rfl, fun r hw => ?_⟩, by simp⟩
    rw [raiseFault_next_get hfault hw, State.accept_get]
  | false =>
    refine ⟨_, exec_consume_next hr ho h1 hp hw hb, rfl, rfl, by simp, fun _ => ?_⟩
    obtain ⟨hzero, hpos⟩ := State.consumed_unit ho
    have hreq : s.consumed.out.persistReq = (s.out.persistReq || decide (s.persistCnt = 1)) := by
      rw [← State.persistDue_eq]
      rfl
    have hcount : s.consumed.persistCnt = if s.persistCnt = 1 then 864000 else s.persistCnt - 1 :=
      congrArg Int.toNat (State.nextPersist_eq h1)
    exact ⟨hreq, hcount, rfl, rfl, hzero, hpos, State.consumed_effectiveBacklog ho,
      fun _ => State.consumed_get_of_unwritten⟩

end Sys2Proof.Proofs
end

section
/-! SUPPORT. A legal machine stays legal while words are presented (R5, R7 (c)), and what a step does does
not depend on the outputs of the step before (R41). -/

namespace Sys2Proof.Machine

/-- A legal machine with no word left to present: what the environment may present words to (R7, R88). -/
structure State.Presentable (s : State) : Prop where
  legal     : s.cfg.legal = true
  trimLegal : s.cfg.trimLegal s.trimOffset = true
  noWords   : s.words = []

/-- Two states hold the same configuration, the same words and the same trim: one may be presented words
where the other may, by `State.Presentable.of_same`. -/
structure State.SameLaunch (s t : State) : Prop where
  cfg        : t.cfg = s.cfg
  words      : t.words = s.words
  trimOffset : t.trimOffset = s.trimOffset

theorem State.Presentable.of_same {s t : State} (hs : s.Presentable) (h : s.SameLaunch t) :
    t.Presentable where
  legal := by rw [h.cfg, hs.legal]
  trimLegal := by rw [h.cfg, h.trimOffset, hs.trimLegal]
  noWords := by rw [h.words, hs.noWords]

/-- Fault entry leaves the configuration, the words and the trim (R193). -/
theorem raiseFault_next_frame {s t : State} {f : FaultCause} (h : raiseFault f s = .next t) : s.SameLaunch t := by
  rw [raiseFault_next_faulted] at h
  cases h
  exact ⟨rfl, rfl, rfl⟩

/-- A TCLK leaves the configuration, the words and the trim (R38). -/
theorem exec_tclk_frame {s t : State} (h : exec .tclk s = .next t) : s.SameLaunch t := by
  rcases exec_tclk_cases s with ⟨-, he⟩ | ⟨-, -, he⟩ | ⟨-, -, -, he⟩ | ⟨-, -, -, he⟩ <;> rw [he] at h
  case inl => cases h; exact ⟨rfl, rfl, rfl⟩
  case inr.inl => obtain ⟨rfl, -⟩ := commit_next h; exact ⟨rfl, rfl, rfl⟩
  case inr.inr.inl => exact raiseFault_next_frame h
  case inr.inr.inr => obtain rfl := commit_matchWrites_next h; exact ⟨rfl, rfl, rfl⟩

/-- A CONSUME leaves the configuration, the words and the trim (R38). -/
theorem exec_consume_frame {s t : State} (h : exec .consume s = .next t) : s.SameLaunch t := by
  rcases exec_consume_cases s with ⟨-, he⟩ | ⟨-, -, he⟩ | ⟨-, -, he⟩ <;> rw [he] at h
  case inl => cases h; exact ⟨rfl, rfl, rfl⟩
  case inr.inl =>
    obtain ⟨hcfg, hwords, htrim⟩ := raiseFault_next_frame h
    exact ⟨hcfg, hwords, htrim⟩
  case inr.inr =>
    obtain rfl : t = s.consumed := (commit_next h).1.trans s.putAll_consumeWrites
    exact ⟨rfl, rfl, rfl⟩

/-- A SLEEP leaves the configuration, the words and the trim (R38). -/
theorem exec_sleep_frame {s t : State} (h : exec .sleep s = .next t) : s.SameLaunch t := by
  rcases exec_sleep_cases s with ⟨-, he⟩ | ⟨-, he⟩ <;> rw [he] at h
  case inl => cases h; exact ⟨rfl, rfl, rfl⟩
  case inr => obtain ⟨rfl, -⟩ := commit_next h; exact ⟨rfl, rfl, rfl⟩

/-- RESET leaves the configuration and the words, and judges the trim that it loads (R161). -/
theorem State.Presentable.exec_reset {s t : State} (hs : s.Presentable) (h : exec .reset s = .next t) :
    t.Presentable := by
  obtain ⟨hlegal, hcommit⟩ := exec_reset_next h
  have htrim : t.trimOffset = s.loadedTrim :=
    exec_reset_get (r := .trimOffset) h (by simp [State.resetWrites])
  obtain ⟨rfl, -⟩ := commit_next hcommit
  exact ⟨by simpa using hs.legal, by simpa [htrim] using hlegal, by simpa using hs.noWords⟩

/-- What an operation leaves may be presented the next word: no operation but RESET writes the trim
(R28, R38). -/
theorem State.Presentable.exec_next {s t : State} {i : Instr} (hs : s.Presentable)
    (h : exec i s = .next t) : t.Presentable := by
  cases i with
  | idle => cases h; exact hs
  | reset => exact hs.exec_reset h
  | tclk => exact hs.of_same (exec_tclk_frame h)
  | consume => exact hs.of_same (exec_consume_frame h)
  | sleep => exact hs.of_same (exec_sleep_frame h)

/-- The outputs of the step before are no part of what may be presented words. -/
theorem State.Presentable.silent {s : State} (hs : s.Presentable) : s.silent.Presentable :=
  ⟨hs.legal, hs.trimLegal, hs.noWords⟩

/-- A machine with no word left takes the one word it is shown: only the outputs go (R41, R88). -/
theorem State.Presentable.present_eq_silent {s : State} (hs : s.Presentable) (w : OpWord) :
    State.present { s with words := [w] } [] = s.silent := by
  simp [State.present, State.silent, hs.noWords]

/-- The step on one word presented to a legal machine, for a word that decodes (R11, R88). -/
theorem State.Presentable.step_word {s : State} (hs : s.Presentable) {w : OpWord} {i : Instr}
    (hd : decode w = .ok i) : step { s with words := [w] } = exec i s.silent :=
  (step_eq_exec (s := { s with words := [w] }) hs.legal rfl hd (State.admits_of_trimLegal hs.trimLegal i)).trans
    (congrArg (exec i) (hs.present_eq_silent w))

/-- What a step on one word leaves may be presented the next one. -/
theorem State.Presentable.step_next {s t : State} {w : OpWord} (hs : s.Presentable)
    (h : step { s with words := [w] } = .next t) : t.Presentable := by
  obtain ⟨-, v, rest, i, hw, hd, -, -⟩ := Machine.step_next h
  obtain ⟨rfl, -⟩ := List.cons.inj hw
  exact hs.silent.exec_next (hs.step_word hd ▸ h)

/-- A step on IDLE drops the outputs of the step before and does no more (R160). -/
theorem State.Presentable.step_idle {s : State} (hs : s.Presentable) :
    step { s with words := [0x0#4] } = .next s.silent :=
  hs.step_word (i := .idle) rfl

/-- A step does not read the outputs of the step before (R41). -/
theorem step_silent (s : State) : step s.silent = step s := rfl

/-- Words presented end alike with and without the outputs of the step before, up to the last outputs. -/
theorem presentAll_silent (ws : List OpWord) (s : State) :
    mapNext State.silent (presentAll ws s.silent) = mapNext State.silent (presentAll ws s) := by
  cases ws with
  | nil => rfl
  | cons w ws =>
    have hstep : step { s.silent with words := [w] } = step { s with words := [w] } :=
      step_silent { s with words := [w] }
    rw [presentAll, presentAll, hstep]

/-- Words presented after one step have the same end, up to the last outputs, if they have it from every
next state of that step. -/
theorem mapNext_andThen_congr {f : State → State} {o : Outcome} {g g' : State → Outcome}
    (h : ∀ t, o = .next t → mapNext f (g t) = mapNext f (g' t)) :
    mapNext f (andThen o g) = mapNext f (andThen o g') := by
  cases o with
  | next t => exact h t rfl
  | fault | refused => rfl

/-- The words that are left when the IDLE words are removed. -/
def withoutIdle (ws : List OpWord) : List OpWord := ws.filter (fun w => decide (w ≠ 0x0#4))

theorem withoutIdle_cons_idle (ws : List OpWord) : withoutIdle (0x0#4 :: ws) = withoutIdle ws := by
  simp [withoutIdle]

theorem withoutIdle_cons_of_ne {w : OpWord} (hw : w ≠ 0x0#4) (ws : List OpWord) :
    withoutIdle (w :: ws) = w :: withoutIdle ws := by
  simp [withoutIdle, hw]

/-- R160's equivalence, by induction on the words: an IDLE word drops outputs that no later step reads,
and any other word leads both sequences through the same step. -/
theorem presentAll_withoutIdle (ws : List OpWord) {s : State} (hs : s.Presentable) :
    mapNext State.silent (presentAll ws s) = mapNext State.silent (presentAll (withoutIdle ws) s) := by
  induction ws generalizing s with
  | nil => rfl
  | cons w ws ih =>
    by_cases hw : w = 0x0#4
    · subst hw
      calc mapNext State.silent (presentAll (0x0#4 :: ws) s)
          = mapNext State.silent (presentAll ws s.silent) := by
            rw [presentAll, hs.step_idle, andThen_of_next]
        _ = mapNext State.silent (presentAll (withoutIdle ws) s.silent) := ih hs.silent
        _ = mapNext State.silent (presentAll (withoutIdle ws) s) := presentAll_silent _ s
        _ = mapNext State.silent (presentAll (withoutIdle (0x0#4 :: ws)) s) := by
            rw [withoutIdle_cons_idle]
    · rw [withoutIdle_cons_of_ne hw, presentAll, presentAll]
      exact mapNext_andThen_congr fun _ ht => ih (hs.step_next ht)

end Sys2Proof.Machine
end

section
/-! The statements of 42_system_ops.md. -/

open Sys2Proof Sys2Proof.Machine

namespace Sys2Proof.Proofs

/-- Settles O9: IDLE by its meaning; the sequences by induction on the words, from a legal machine, which
every step leaves one. -/
theorem idleHasNoEffect : Obligations.IdleHasNoEffect := by
  unfold Obligations.IdleHasNoEffect
  exact ⟨fun _ => rfl, fun ws _ hl ht hw => presentAll_withoutIdle ws ⟨hl, ht, hw⟩⟩

end Sys2Proof.Proofs
end

section
/-! The statements of 60_exceptions.md. -/

open Sys2Proof Sys2Proof.Machine

namespace Sys2Proof.Proofs

/-- Settles O22: fault entry leaves `State.faulted`, whose cause is the code of each fault as a two-bit
pattern. -/
theorem faultEntryIsPrecise : Obligations.FaultEntryIsPrecise := by
  unfold Obligations.FaultEntryIsPrecise
  intro s f
  have hentry := raiseFault_next_faulted f s
  cases f with
  | backlogUnderflow => exact hentry
  | backlogOverflow => exact hentry

end Sys2Proof.Proofs
end

section
/-! SUPPORT. What an operation can answer, said once as a relation with one constructor for each branch of
each meaning, so that a proof about every operation is one case analysis (R100 to R102, R131 to R136, R160,
R161). -/

namespace Sys2Proof.Machine

/-- The state after RESET (R43, R161): what its writes make, by `State.putAll_resetWrites`. -/
def State.restarted (s : State) : State :=
  { s with
    timerCount := 0, compareValue := s.cfg.base + 1, nominalCompare := s.cfg.base + 1,
    cyclePosition := 0, acc := 0, trimOffset := s.loadedTrim,
    backlog := 0, owed := false, sleeping := false, snap := 0, persistCnt := persistPeriod,
    faultCause := 0#2, halted := false, dbgOut := false,
    out := { s.out with nvAddr := s.trimReads } }

/-- What RESET makes, said once for every state (R43). -/
theorem State.putAll_resetWrites (s : State) :
    (s.driveNv s.trimReads).putAll s.resetWrites = s.restarted := by
  have hbase : ((s.cfg.base : Int) + 1).toNat = s.cfg.base + 1 := by omega
  simp [State.resetWrites, State.restarted, State.driveNv, hbase]

/-- The state after an accepted SLEEP (R136). -/
def State.slept (s : State) : State := { s.accept .sleep with sleeping := true }

/-- `t` is an answer of operation `i` in `s`. -/
inductive Answers : Instr → State → State → Prop
  /-- IDLE (R160). -/
  | idle {s : State} : Answers .idle s s
  /-- TCLK of a halted machine (R100). -/
  | frozen {s : State} (hh : s.halted = true) : Answers .tclk s s
  /-- TCLK below the compare value, or past it (R100). -/
  | counted {s : State} (hh : s.halted = false) (hm : s.timerCount ≠ s.compareValue) :
      Answers .tclk s { s with timerCount := s.timerCount + 1 }
  /-- The MATCH that takes the overflow fault (R102). -/
  | overflowed {s : State} (hh : s.halted = false) (hm : s.timerCount = s.compareValue)
      (ho : s.overflows = true) : Answers .tclk s (s.faulted .backlogOverflow)
  /-- The MATCH that performs its sub-steps (R101). -/
  | matched {s : State} (hh : s.halted = false) (hm : s.timerCount = s.compareValue)
      (ho : s.overflows = false) : Answers .tclk s s.matched
  /-- A MAIN operation that is not accepted (R42, R131). -/
  | blocked {i : Instr} {s : State} (ha : i.agent = .main) (hr : s.ready = false) :
      Answers i s (s.block i)
  /-- The CONSUME that takes the underflow fault (R135). -/
  | underflowed {s : State} (hr : s.ready = true) (ho : s.owed = true) :
      Answers .consume s ((s.accept .consume).faulted .backlogUnderflow)
  /-- The CONSUME that takes a tick (R132). -/
  | consumed {s : State} (hr : s.ready = true) (ho : s.owed = false) : Answers .consume s s.consumed
  /-- The SLEEP that is accepted (R136). -/
  | slept {s : State} (hr : s.ready = true) : Answers .sleep s s.slept
  /-- RESET of a trim in range (R161). -/
  | restarted {s : State} (ht : s.cfg.trimLegal s.loadedTrim = true) : Answers .reset s s.restarted

/-- A TCLK that answers is one of the four of `exec_tclk_cases`. -/
theorem exec_tclk_answers {s t : State} (h : exec .tclk s = .next t) : Answers .tclk s t := by
  rcases exec_tclk_cases s with ⟨hh, he⟩ | ⟨hh, hm, he⟩ | ⟨hh, hm, ho, he⟩ | ⟨hh, hm, ho, he⟩ <;>
    rw [he] at h
  case inl => cases h; exact .frozen hh
  case inr.inl => obtain ⟨rfl, -⟩ := commit_next h; exact .counted hh hm
  case inr.inr.inl =>
    rw [raiseFault_next_faulted] at h
    cases h
    exact .overflowed hh hm ho
  case inr.inr.inr => obtain rfl := commit_matchWrites_next h; exact .matched hh hm ho

/-- A CONSUME that answers is one of the three of `exec_consume_cases`. -/
theorem exec_consume_answers {s t : State} (h : exec .consume s = .next t) :
    Answers .consume s t := by
  rcases exec_consume_cases s with ⟨hr, he⟩ | ⟨hr, ho, he⟩ | ⟨hr, ho, he⟩ <;> rw [he] at h
  case inl => cases h; exact .blocked rfl hr
  case inr.inl =>
    rw [raiseFault_next_faulted] at h
    cases h
    exact .underflowed hr ho
  case inr.inr =>
    obtain rfl : t = s.consumed := (commit_next h).1.trans s.putAll_consumeWrites
    exact .consumed hr ho

/-- A SLEEP that answers is one of the two of `exec_sleep_cases`. -/
theorem exec_sleep_answers {s t : State} (h : exec .sleep s = .next t) : Answers .sleep s t := by
  rcases exec_sleep_cases s with ⟨hr, he⟩ | ⟨hr, he⟩ <;> rw [he] at h
  case inl => cases h; exact .blocked rfl hr
  case inr => obtain ⟨rfl, -⟩ := commit_next h; exact .slept hr

/-- RESET that answers has found its trim in range and leaves `State.restarted` (R161). -/
theorem exec_reset_next_restarted {s t : State} (h : exec .reset s = .next t) :
    t = s.restarted ∧ s.cfg.trimLegal s.loadedTrim = true := by
  obtain ⟨ht, hc⟩ := exec_reset_next h
  exact ⟨(commit_next hc).1.trans s.putAll_resetWrites, ht⟩

/-- Everything an operation can answer. -/
theorem exec_next_answers {i : Instr} {s t : State} (h : exec i s = .next t) : Answers i s t := by
  cases i with
  | idle => cases h; exact .idle
  | reset =>
    obtain ⟨rfl, ht⟩ := exec_reset_next_restarted h
    exact .restarted ht
  | tclk => exact exec_tclk_answers h
  | consume => exact exec_consume_answers h
  | sleep => exact exec_sleep_answers h

/-- A next state is an answer of the next operation to the state with its word taken (R11, R88). -/
theorem step_next_answers {s t : State} (h : step s = .next t) :
    ∃ i rest, s.nextInstr = some i ∧ Answers i (s.present rest) t := by
  obtain ⟨i, rest, hi, he⟩ := step_next_exec h
  exact ⟨i, rest, hi, exec_next_answers he⟩

end Sys2Proof.Machine
end

section
/-! SUPPORT. The invariant of R46 is kept by every answer of an operation, and RESET establishes it. -/

namespace Sys2Proof.Machine

/-- The word on `op` and the outputs are no part of the invariant. -/
theorem State.Inv.present {s : State} (hi : s.Inv) (rest : List OpWord) : (s.present rest).Inv :=
  { hi with }

/-- What waits and the outputs are no part of the invariant. -/
theorem State.Inv.block {s : State} (hi : s.Inv) (i : Instr) : (s.block i).Inv := { hi with }

theorem State.Inv.accept {s : State} (hi : s.Inv) (i : Instr) : (s.accept i).Inv := { hi with }

/-- SLEEP writes an element that the invariant does not speak of. -/
theorem State.Inv.slept {s : State} (hi : s.Inv) : s.slept.Inv := { hi with }

/-- A timer that has not reached the compare value stays at or below it (R46 (a)). -/
theorem State.Inv.counted {s : State} (hi : s.Inv) (hm : s.timerCount ≠ s.compareValue) :
    State.Inv { s with timerCount := s.timerCount + 1 } :=
  { hi with timer := Nat.lt_of_le_of_ne hi.timer hm }

/-- Fault entry latches a written cause, halts, and drives the debug line as R195 says. -/
theorem State.Inv.faulted {s : State} (hi : s.Inv) (f : FaultCause) : (s.faulted f).Inv := by
  have hcode : BitVec.ofNat 2 f.code.toNat ≠ 0#2 ∧ BitVec.ofNat 2 f.code.toNat ≠ 3#2 := by
    cases f <;> decide
  have hcause : (s.faulted f).faultCause ≠ 0#2 ∧ (s.faulted f).faultCause ≠ 3#2 := by
    by_cases h0 : s.faultCause = 0#2
    · simpa [State.faulted, h0] using hcode
    · simpa [State.faulted, h0] using hi.causeWritten
  exact { hi with
    causeWritten := hcause.2
    haltedCause := ⟨fun _ => hcause.1, fun _ => rfl⟩
    debug := fun hd => ⟨rfl, hd⟩
    debugHeld := fun _ hd => hd }

/-- `pos'` is a place of the pattern (R104). -/
theorem State.Inv.matched_position {s : State} (hi : s.Inv) :
    s.matched.cyclePosition = (s.cyclePosition + 1) % s.cfg.cycles := by
  have hp := hi.position
  have hpos : s.matched.cyclePosition =
      if s.cyclePosition + 1 = s.cfg.cycles then 0 else s.cyclePosition + 1 := by
    simp only [State.matched, State.nextPosition_eq, Int.toNat_natCast]
  rw [hpos]
  split
  next h => rw [h, Nat.mod_self]
  next h => rw [Nat.mod_eq_of_lt (by omega)]

/-- `nom'` is the pattern's value at `pos'` (R104, R111). -/
theorem State.Inv.matched_nominal {s : State} (hi : s.Inv) :
    s.matched.nominalCompare = s.cfg.nominalAt s.matched.cyclePosition := by
  obtain ⟨⟨hlong, hle, -⟩, -⟩ := Config.legal_iff.mp hi.legal
  have hnom := hi.nominal
  simp only [State.matched, State.nextPosition_eq, State.nextNominal_eq, Int.toNat_natCast]
  split
  next => rw [Config.nominalAt, if_pos (by omega)]
  next hne =>
    split
    next hs => rw [Config.nominalAt, if_neg (by omega)]
    next hs =>
      rw [hnom, Config.nominalAt, Config.nominalAt]
      exact if_congr (by omega) rfl rfl

/-- `cmp'` is the pattern's value, or carries one correction (R46 (d), R105). -/
theorem State.Inv.matched_explained {s : State} (hi : s.Inv) : s.matched.compareExplained := by
  have hc := hi.matched_compareValue
  cases hd : s.trimDue with
  | true =>
    have he : s.cfg.trimEn = true := State.trimEn_of_trimDue hd
    rw [hd, if_pos rfl] at hc
    exact .inr ⟨he, hc⟩
  | false => exact .inl (by simpa [hd] using hc)

/-- A MATCH that does not overflow keeps the backlog in range (R102, R106). -/
theorem State.Inv.matched_backlog {s : State} (hi : s.Inv) (ho : s.overflows = false) :
    s.matched.backlog ≤ s.cfg.backlogMax := by
  have hb := hi.backlogMax
  cases h : s.owed with
  | true => simpa [State.matched, h] using hb
  | false =>
    have hne : s.backlog ≠ s.cfg.backlogMax := by simpa [State.overflows, h] using ho
    simp only [State.matched, h, Bool.false_eq_true, if_false]
    omega

/-- A MATCH that does not overflow keeps the invariant. -/
theorem State.Inv.matched {s : State} (hi : s.Inv) (ho : s.overflows = false) : s.matched.Inv := by
  obtain ⟨hacc, -⟩ := hi.matched_acc
  exact { hi with
    timer := Nat.zero_le _
    position := by
      rw [hi.matched_position]
      exact Nat.mod_lt _ (Nat.zero_lt_of_lt hi.position)
    nominal := hi.matched_nominal
    compare := hi.matched_explained
    accBound := hacc
    accZero := fun he =>
      (congrArg Int.toNat (State.nextAcc_of_no_trim (s := s) he)).trans (hi.accZero he)
    owedEmpty := fun h => by cases h
    backlogMax := hi.matched_backlog ho }

/-- A unit is owed after a CONSUME only if it found nothing banked (R134). -/
theorem State.backlog_of_consumed_owed {s : State} (ho : s.owed = false)
    (h : s.consumed.owed = true) : s.backlog = 0 := by
  obtain ⟨-, hpos⟩ := State.consumed_unit ho
  rcases Nat.eq_zero_or_pos s.backlog with hz | hz
  · exact hz
  · simp [(hpos hz).1] at h

/-- An accepted CONSUME keeps the countdown in its period and the backlog below its bound (R133, R134). -/
theorem State.Inv.consumed {s : State} (hi : s.Inv) (ho : s.owed = false) : s.consumed.Inv := by
  have h1 := hi.persistLow
  have hp := hi.persistHigh
  have hb := hi.backlogMax
  have hcount : s.consumed.persistCnt = if s.persistCnt = 1 then 864000 else s.persistCnt - 1 :=
    congrArg Int.toNat (State.nextPersist_eq h1)
  have hrange : 1 ≤ s.consumed.persistCnt ∧ s.consumed.persistCnt ≤ persistPeriod := by
    rw [hcount]
    rw [persistPeriod] at hp ⊢
    split <;> omega
  obtain ⟨hzero, -⟩ := State.consumed_unit ho
  exact { hi with
    owedEmpty := fun h => (hzero (State.backlog_of_consumed_owed ho h)).2
    backlogMax := (Nat.sub_le _ _).trans hb
    snapMax := hb
    persistLow := hrange.1
    persistHigh := hrange.2 }

/-- RESET of a legal configuration leaves the invariant, whatever state it finds (R46, R161). -/
theorem State.restarted_inv {s : State} (hl : s.cfg.legal = true) (hq : 2 ^ s.cfg.cmpW ≤ trimQuantum)
    (ht : s.cfg.trimLegal s.loadedTrim = true) : s.restarted.Inv := by
  obtain ⟨⟨hlong, hle, -⟩, -⟩ := Config.legal_iff.mp hl
  exact {
    legal := hl
    trimLegal := ht
    trimZero := fun he => if_neg (ne_true_of_eq_false he)
    trimRange := s.loadedTrim_fits
    shortClock := hq
    timer := Nat.zero_le _
    position := hlong.trans hle
    nominal := (if_pos hlong).symm
    compare := .inl rfl
    accBound := Nat.zero_lt_succ _
    accZero := fun _ => rfl
    owedEmpty := fun _ => rfl
    backlogMax := Nat.zero_le _
    snapMax := Nat.zero_le _
    persistLow := Nat.succ_pos _
    persistHigh := le_rfl
    causeWritten := by simp [State.restarted]
    haltedCause := by simp [State.restarted]
    debug := fun h => by cases h
    debugHeld := fun h => by cases h }

/-- Every answer to a state of the invariant has the invariant. -/
theorem State.Inv.answers {i : Instr} {s t : State} (hi : s.Inv) (h : Answers i s t) : t.Inv := by
  cases h with
  | idle => exact hi
  | frozen => exact hi
  | counted _ hm => exact hi.counted hm
  | overflowed => exact hi.faulted _
  | matched _ _ ho => exact hi.matched ho
  | blocked => exact hi.block _
  | underflowed => exact (hi.accept _).faulted _
  | consumed _ ho => exact hi.consumed ho
  | slept => exact hi.slept
  | restarted ht => exact State.restarted_inv hi.legal hi.shortClock ht

/-- Every step keeps the invariant. -/
theorem State.Inv.step {s t : State} (hi : s.Inv) (h : Machine.step s = .next t) : t.Inv := by
  obtain ⟨i, rest, -, ha⟩ := step_next_answers h
  exact (hi.present rest).answers ha

end Sys2Proof.Machine
end

section
/-! The statements of 10_state.md about the invariant. -/

open Sys2Proof Sys2Proof.Machine

namespace Sys2Proof.Proofs

/-- Settles O32: the step takes its word, and every answer of an operation keeps the invariant. -/
theorem stepKeepsTheInvariant : Obligations.StepKeepsTheInvariant := by
  unfold Obligations.StepKeepsTheInvariant
  exact fun _ _ hi h => hi.step h

/-- Settles O34: a RESET that answers has found its trim in range and leaves `State.restarted`. -/
theorem resetEstablishesTheInvariant : Obligations.ResetEstablishesTheInvariant := by
  unfold Obligations.ResetEstablishesTheInvariant
  intro s t hl hq h
  obtain ⟨rfl, ht⟩ := exec_reset_next_restarted h
  exact State.restarted_inv hl hq ht

/-- Settles O33: `State.reset` is what RESET leaves when it is performed in `State.reset`. -/
theorem resetStateHasTheInvariant : Obligations.ResetStateHasTheInvariant := by
  unfold Obligations.ResetStateHasTheInvariant
  have hreset : State.restarted State.reset = State.reset := rfl
  rw [← hreset]
  exact State.restarted_inv (by decide) (by decide) (by decide)

end Sys2Proof.Proofs
end

section
/-! SUPPORT. Registers and their writes (R9, R10): a commit leaves in-range elements in range, and every
operation that changes an element does so by one commit. -/

namespace Sys2Proof.Machine

/-- A value of its range written to one element leaves every element in range. -/
theorem State.inRange.set {s : State} (hs : s.inRange) {r : Reg} {v : Int}
    (hf : r.fits s.cfg v = true) : (s.set r v).inRange := by
  intro q
  rw [State.set_keeps_cfg]
  by_cases hq : q = r
  · rw [hq, State.get_set_of_fits hf, hf]
  · rw [State.get_set_of_ne hq, hs q]

/-- Values of their ranges written to elements leave every element in range, by induction on the writes. -/
theorem State.inRange.putAll {s : State} (hs : s.inRange) {ws : Writes}
    (hf : ∀ w ∈ ws, w.1.fits s.cfg w.2 = true) : (s.putAll ws).inRange := by
  induction ws generalizing s with
  | nil => exact hs
  | cons w ws ih =>
    obtain ⟨r, v⟩ := w
    obtain ⟨hr, hws⟩ := List.forall_mem_cons.mp hf
    exact ih (hs.set hr) (by simpa using hws)

/-- A committed step leaves in-range elements in range (R9). -/
theorem State.inRange.commit_next {s t : State} {ws : Writes} (hs : s.inRange)
    (h : commit s ws = .next t) : t.inRange := by
  obtain ⟨rfl, hf⟩ := Machine.commit_next h
  exact hs.putAll hf

/-- `u` differs from `s` at most outside the elements and the configuration. -/
structure State.SameElements (s u : State) : Prop where
  get : ∀ r : Reg, u.get r = s.get r
  cfg : u.cfg = s.cfg

theorem State.SameElements.refl (s : State) : s.SameElements s := ⟨fun _ => rfl, rfl⟩

theorem State.sameElements_present (s : State) (rest : List OpWord) :
    s.SameElements (s.present rest) := ⟨s.present_get rest, rfl⟩

theorem State.sameElements_block (s : State) (i : Instr) : s.SameElements (s.block i) :=
  ⟨s.block_get i, rfl⟩

theorem State.sameElements_accept (s : State) (i : Instr) : s.SameElements (s.accept i) :=
  ⟨s.accept_get i, rfl⟩

theorem State.sameElements_driveNv (s : State) (as : List NvAddr) : s.SameElements (s.driveNv as) :=
  ⟨s.driveNv_get as, rfl⟩

theorem State.sameElements_matchEvents (s : State) : s.SameElements s.matchEvents :=
  ⟨s.matchEvents_get, by rw [State.matchEvents_eq]⟩

theorem State.sameElements_consumeEvents (s : State) : s.SameElements s.consumeEvents :=
  ⟨s.consumeEvents_get, by rw [State.consumeEvents_eq]; rfl⟩

theorem State.inRange.of_same {s u : State} (hs : s.inRange) (h : s.SameElements u) : u.inRange :=
  fun r => by rw [h.cfg, h.get, hs r]

/-- An operation that answers leaves every element as it is, or commits writes to the elements as they
are. -/
theorem exec_next_commits {i : Instr} {s t : State} (h : exec i s = .next t) :
    s.SameElements t ∨ ∃ u ws, s.SameElements u ∧ commit u ws = .next t := by
  cases i with
  | idle => cases h; exact .inl (.refl s)
  | reset => exact .inr ⟨_, _, s.sameElements_driveNv _, (exec_reset_next h).2⟩
  | tclk =>
    rcases exec_tclk_cases s with ⟨-, he⟩ | ⟨-, -, he⟩ | ⟨-, -, -, he⟩ | ⟨-, -, -, he⟩ <;>
      rw [he] at h
    case inl => cases h; exact .inl (.refl s)
    case inr.inl => exact .inr ⟨_, _, .refl s, h⟩
    case inr.inr.inl => exact .inr ⟨_, _, .refl s, h⟩
    case inr.inr.inr => exact .inr ⟨_, _, s.sameElements_matchEvents, h⟩
  | consume =>
    rcases exec_consume_cases s with ⟨-, he⟩ | ⟨-, -, he⟩ | ⟨-, -, he⟩ <;> rw [he] at h
    case inl => cases h; exact .inl (s.sameElements_block _)
    case inr.inl => exact .inr ⟨_, _, s.sameElements_accept _, h⟩
    case inr.inr => exact .inr ⟨_, _, s.sameElements_consumeEvents, h⟩
  | sleep =>
    rcases exec_sleep_cases s with ⟨-, he⟩ | ⟨-, he⟩ <;> rw [he] at h
    case inl => cases h; exact .inl (s.sameElements_block _)
    case inr => exact .inr ⟨_, _, s.sameElements_accept _, h⟩

/-- An operation that answers leaves in-range elements in range. -/
theorem State.inRange.exec_next {i : Instr} {s t : State} (hs : s.inRange)
    (h : exec i s = .next t) : t.inRange := by
  rcases exec_next_commits h with ht | ⟨u, ws, hu, hc⟩
  · exact hs.of_same ht
  · exact (hs.of_same hu).commit_next hc

/-- A bound below the largest value of an unsigned register is its range (R9). -/
theorem Reg.fits_natCast {c : Config} {r : Reg} {n : Nat} (h : r.signed = false)
    (hn : n ≤ maxOf (r.width c)) : r.fits c n = true :=
  (Reg.fits_unsigned h).mpr ⟨Int.natCast_nonneg n, by exact_mod_cast hn⟩

/-- The compare register holds the two values of the pattern (R7 (b)). -/
theorem State.Inv.nominalCompare_le {s : State} (hi : s.Inv) :
    s.nominalCompare ≤ maxOf s.cfg.cmpW := by
  have hb := hi.base_succ_le
  have hn := nominalAt_cases s.cfg s.cyclePosition
  rw [← hi.nominal] at hn
  omega

/-- The accumulator fits its register: below the quantum with trim, 0 without (R27, U4). -/
theorem State.Inv.acc_le {s : State} (hi : s.Inv) : s.acc ≤ maxOf s.cfg.accW := by
  obtain ⟨-, -, -, hw⟩ := Config.legal_iff.mp hi.legal
  cases he : s.cfg.trimEn with
  | true => exact (Nat.le_sub_one_of_lt hi.accBound).trans (hw he)
  | false => rw [hi.accZero he]; exact Nat.zero_le _

/-- The invariant bounds each element by its register (R22, R46). -/
theorem State.Inv.inRange {s : State} (hi : s.Inv) : s.inRange := by
  obtain ⟨⟨-, -, hpos⟩, -, hperiod, -⟩ := Config.legal_iff.mp hi.legal
  intro r
  cases r with
  | timerCount => exact Reg.fits_natCast rfl (hi.timer.trans hi.compareValue_le)
  | compareValue => exact Reg.fits_natCast rfl hi.compareValue_le
  | nominalCompare => exact Reg.fits_natCast rfl hi.nominalCompare_le
  | cyclePosition => exact Reg.fits_natCast rfl (hi.position.le.trans hpos)
  | acc => exact Reg.fits_natCast rfl hi.acc_le
  | trimOffset => exact hi.trimRange
  | backlog => exact Reg.fits_natCast rfl hi.backlogMax
  | owed => exact (Reg.fits_one_bit s.owed).1
  | sleeping => exact (Reg.fits_one_bit s.sleeping).2.1
  | snap => exact Reg.fits_natCast rfl hi.snapMax
  | persistCnt => exact Reg.fits_natCast rfl (hi.persistHigh.trans hperiod)
  | faultCause => exact Reg.fits_natCast rfl (Nat.le_sub_one_of_lt s.faultCause.isLt)
  | halted => exact (Reg.fits_one_bit s.halted).2.2.1
  | dbgOut => exact (Reg.fits_one_bit s.dbgOut).2.2.2

/-- A running machine of the invariant counts below its compare value (R100). -/
theorem exec_tclk_counts {s : State} (hh : s.halted = false) (hm : s.timerCount < s.compareValue)
    (hc : s.compareValue ≤ maxOf s.cfg.cmpW) :
    exec .tclk s = .next { s with timerCount := s.timerCount + 1 } := by
  rcases exec_tclk_cases s with ⟨h, -⟩ | ⟨-, -, he⟩ | ⟨-, h, -⟩ | ⟨-, h, -⟩
  · simp [hh] at h
  · have hf : Reg.timerCount.fits s.cfg ((s.timerCount : Int) + 1) = true :=
      Reg.fits_natCast (n := s.timerCount + 1) rfl (Nat.le_trans hm hc)
    rw [he, commit_of_fits (by simpa using hf)]
    rfl
  · omega
  · omega

/-- An accepted SLEEP completes in every state (R136). -/
theorem exec_sleep_of_ready {s : State} (hr : s.ready = true) : exec .sleep s = .next s.slept := by
  rcases exec_sleep_cases s with ⟨hn, -⟩ | ⟨-, he⟩
  · simp [hr] at hn
  · rw [he, commit_of_fits (by simpa using (Reg.fits_one_bit (c := s.cfg) true).2.1)]
    rfl

/-- An accepted CONSUME of a state of the invariant completes when no unit is owed (R132). -/
theorem State.Inv.exec_consume {s : State} (hi : s.Inv) (hr : s.ready = true) (ho : s.owed = false) :
    exec .consume s = .next s.consumed := by
  obtain ⟨-, -, hperiod, -⟩ := Config.legal_iff.mp hi.legal
  exact exec_consume_next hr ho hi.persistLow hi.persistHigh hperiod hi.backlogMax

/-- A TCLK of a state of the invariant completes: no write leaves its register. -/
theorem State.Inv.exec_tclk_completes {s : State} (hi : s.Inv) : ∃ t, exec .tclk s = .next t := by
  cases hh : s.halted with
  | true => exact ⟨s, by simp [exec, execTclk, hh]⟩
  | false =>
    by_cases hm : s.timerCount = s.compareValue
    · rcases hi.exec_tclk_match hh hm with ⟨-, he⟩ | ⟨-, he⟩
      · exact ⟨_, he⟩
      · exact ⟨_, he⟩
    · exact ⟨_, exec_tclk_counts hh (Nat.lt_of_le_of_ne hi.timer hm) hi.compareValue_le⟩

/-- Every operation but RESET completes in a state of the invariant. -/
theorem State.Inv.exec_completes {s : State} (hi : s.Inv) {i : Instr} (hn : i ≠ .reset) :
    ∃ t, exec i s = .next t := by
  cases i with
  | idle => exact ⟨s, rfl⟩
  | reset => exact absurd rfl hn
  | tclk => exact hi.exec_tclk_completes
  | consume =>
    cases hr : s.ready with
    | false => exact ⟨_, exec_main_of_not_ready (.inl rfl) hr⟩
    | true =>
      cases ho : s.owed with
      | true => exact ⟨_, (exec_consume_of_owed hr ho).trans (raiseFault_next_faulted _ _)⟩
      | false => exact ⟨_, hi.exec_consume hr ho⟩
  | sleep =>
    cases hr : s.ready with
    | false => exact ⟨_, exec_main_of_not_ready (.inr rfl) hr⟩
    | true => exact ⟨_, exec_sleep_of_ready hr⟩

/-- RESET of a legal configuration answers the reset state, or refuses the trim it would load (R161). -/
theorem exec_reset_cases {s : State} (hl : s.cfg.legal = true) :
    (s.cfg.trimLegal s.loadedTrim = true ∧ exec .reset s = .next s.restarted) ∨
      (s.cfg.trimLegal s.loadedTrim = false ∧ exec .reset s = .refused .trimOutOfRange) := by
  cases ht : s.cfg.trimLegal s.loadedTrim with
  | true =>
    refine .inl ⟨rfl, (exec_reset_of_legal hl ht).trans ?_⟩
    rw [State.putAll_resetWrites]
  | false => exact .inr ⟨rfl, exec_reset_trimOutOfRange_iff.mpr (by simp [ht])⟩

/-- The decoder reads no word but an operation's own (R82). -/
theorem eq_encodeWord_of_decode {w : OpWord} {i : Instr} (h : decode w = .ok i) : w = encodeWord i := by
  rcases decode_ok_cases h with ⟨rfl, rfl⟩ | ⟨rfl, rfl⟩ | ⟨rfl, rfl⟩ | ⟨rfl, rfl⟩ | ⟨rfl, rfl⟩ <;> rfl

/-- The word of every operation decodes to it (R80 to R82). -/
theorem decode_encodeWord (i : Instr) : decode (encodeWord i) = .ok i := by
  cases i <;> rfl

end Sys2Proof.Machine
end

section
/-! The statements of 00_scope.md about registers and their writes. -/

open Sys2Proof Sys2Proof.Machine

namespace Sys2Proof.Proofs

/-- Settles O36: the one commit of a step checks each write against its register. -/
theorem stepNeverLeavesARegister : Obligations.StepNeverLeavesARegister := by
  unfold Obligations.StepNeverLeavesARegister
  intro s t hs h
  obtain ⟨i, rest, -, he⟩ := step_next_exec h
  exact (hs.of_same (s.sameElements_present rest)).exec_next he

/-- Settles O35: each clause of the invariant bounds its element by the register's width. -/
theorem invariantKeepsRegistersInRange : Obligations.InvariantKeepsRegistersInRange := by
  unfold Obligations.InvariantKeepsRegistersInRange
  exact fun _ hi => hi.inRange

/-- Settles O37: a word on `op` is reserved, or RESET, which judges the trim it loads, or another operation,
which the trim held admits and whose writes all fit. -/
theorem invariantStatesAlwaysStep : Obligations.InvariantStatesAlwaysStep := by
  unfold Obligations.InvariantStatesAlwaysStep
  intro s w rest hi hw
  match hd : decode w with
  | .error (.reserved v) =>
    obtain ⟨rfl, hr⟩ := decode_error hd
    exact .inr (.inl ⟨hr, step_of_decode_error hi.legal hw hd⟩)
  | .ok i =>
    have hstep := step_eq_exec hi.legal hw hd (State.admits_of_trimLegal hi.trimLegal i)
    by_cases hn : i = .reset
    · subst hn
      rcases exec_reset_cases (s := s.present rest) hi.legal with ⟨-, he⟩ | ⟨ht, he⟩
      · exact .inl ⟨_, hstep.trans he⟩
      · obtain ⟨hen, hfits⟩ : s.cfg.trimEn = true ∧ s.cfg.trimFits s.loadedTrim = false := by
          simpa [Config.trimLegal] using ht
        exact .inr (.inr ⟨eq_encodeWord_of_decode hd, hen, hfits, hstep.trans he⟩)
    · obtain ⟨t, he⟩ := (hi.present rest).exec_completes hn
      exact .inl ⟨t, hstep.trans he⟩

/-- Settles O52: `commit` makes each write, and the writes name distinct elements. -/
theorem commitWritesExactValues : Obligations.CommitWritesExactValues := by
  unfold Obligations.CommitWritesExactValues
  intro s t ws hn h
  exact ⟨fun _ hm => commit_next_get_written h hn hm,
    fun _ hr => commit_next_get h fun w hw e => hr (e ▸ List.mem_map_of_mem hw)⟩

end Sys2Proof.Proofs
end

section
/-! SUPPORT. What each step does to the counts of R138 and R112 and to the protocol of R178 (a), and the
induction over a run, made once. -/

namespace Sys2Proof.Machine

/-- A MATCH that does not fault raises the effective backlog by exactly 1 (R31, R106). -/
theorem State.matched_effectiveBacklog (s : State) :
    s.matched.effectiveBacklog = s.effectiveBacklog + 1 := by
  cases ho : s.owed <;> simp [State.effectiveBacklog, State.matched, ho]

/-- The next accepted CONSUME without a fault is read off the state before its word is taken (R138). -/
theorem State.consumesNext_of_nextInstr {s : State} {i : Instr} (h : s.nextInstr = some i) :
    s.consumesNext = (decide (i = .consume) && s.ready && !s.owed) := by
  simp [State.consumesNext, h]

/-- The operations of MAIN are neither RESET nor TCLK (R82). -/
theorem ne_of_agent_main {i : Instr} (h : i.agent = .main) : i ≠ .reset ∧ i ≠ .tclk := by
  refine ⟨?_, ?_⟩ <;> rintro rfl <;> cases h

/-- What a step does to the effective backlog and to the counts of R138 together: RESET clears both, and
any other step moves them by the same amounts. -/
theorem step_effectiveBacklog {s t : State} (h : step s = .next t) :
    (s.nextInstr = some .reset ∧ t.effectiveBacklog = 0) ∨
      (s.nextInstr ≠ some .reset ∧
        t.effectiveBacklog = s.effectiveBacklog + t.out.tick.toNat - s.consumesNext.toNat) := by
  obtain ⟨i, rest, hi, ha⟩ := step_next_answers h
  rw [State.consumesNext_of_nextInstr hi, hi]
  cases ha with
  | restarted => exact .inl ⟨rfl, rfl⟩
  | matched =>
    refine .inr ⟨by simp, (s.present rest).matched_effectiveBacklog.trans ?_⟩
    simp [State.effectiveBacklog, State.matched]
  | consumed hr ho =>
    refine .inr ⟨by simp, (State.consumed_effectiveBacklog ho).trans ?_⟩
    rw [State.present_ready] at hr
    rw [State.present_owed] at ho
    simp [State.effectiveBacklog, State.consumed, hr, ho]
  | underflowed hr ho =>
    rw [State.present_owed] at ho
    refine .inr ⟨by simp, ?_⟩
    simp [State.effectiveBacklog, State.faulted, ho]
  | blocked hm hr =>
    rw [State.present_ready] at hr
    refine .inr ⟨by simp [(ne_of_agent_main hm).1], ?_⟩
    simp [State.effectiveBacklog, hr]
  | idle => exact .inr ⟨by simp, by simp [State.effectiveBacklog]⟩
  | frozen => exact .inr ⟨by simp, by simp [State.effectiveBacklog]⟩
  | counted => exact .inr ⟨by simp, by simp [State.effectiveBacklog]⟩
  | overflowed => exact .inr ⟨by simp, by simp [State.effectiveBacklog, State.faulted]⟩
  | slept => exact .inr ⟨by simp, by simp [State.effectiveBacklog, State.slept]⟩

/-- At most one unit is owed (R31). -/
theorem State.neg_one_le_effectiveBacklog (s : State) : -1 ≤ s.effectiveBacklog := by
  unfold State.effectiveBacklog
  cases s.owed with
  | false => simp only [Bool.toInt_false]; omega
  | true => simp only [Bool.toInt_true]; omega

/-- The counts of R138 agree with the state. -/
def Ledger.Agrees (l : Ledger) (s : State) : Prop :=
  s.effectiveBacklog = (l.produced : Int) - l.consumed

/-- Every step keeps the counts in agreement with the effective backlog. -/
theorem Ledger.Agrees.step {l : Ledger} {s t : State} (hl : l.Agrees s)
    (h : Machine.step s = .next t) : (l.after s t).Agrees t := by
  unfold Ledger.Agrees at hl ⊢
  rcases step_effectiveBacklog h with ⟨hr, he⟩ | ⟨hr, he⟩
  · simp [Ledger.after, hr, he]
  · simp only [Ledger.after, if_neg hr]
    omega

/-- Consumes lead the ticks by at most the unit that is owed. -/
theorem Ledger.Agrees.consumed_le {l : Ledger} {s : State} (hl : l.Agrees s) :
    l.consumed ≤ l.produced + 1 := by
  have := s.neg_one_le_effectiveBacklog
  unfold Ledger.Agrees at hl
  omega

/-- What a step keeps of a state and its counts holds at the end of every run (R138). -/
theorem runLedger_induction {P : State → Ledger → Prop}
    (hstep : ∀ s t l, P s l → step s = .next t → P t (l.after s t)) :
    ∀ (k : Nat) (s t : State) (l l' : Ledger), P s l → runLedger k s l = some (t, l') → P t l'
  | 0, s, t, l, l', hP, h => by cases h; exact hP
  | k + 1, s, t, l, l', hP, h => by
    unfold runLedger at h
    split at h
    next u hu => exact runLedger_induction hstep k u t _ l' (hstep s u l hP hu) h
    next => cases h

/-- The countdown and the accepted CONSUMEs make up whole periods (R133). -/
def Ledger.CountsPeriods (l : Ledger) (s : State) : Prop :=
  s.Inv ∧ (s.persistCnt + l.consumed) % 864000 = 0

/-- One CONSUME takes one from the countdown, or reloads a whole period when one is left (R133). -/
theorem State.consumed_persistCnt {s : State} (h : 1 ≤ s.persistCnt) (n : Nat) :
    (s.consumed.persistCnt + (n + 1)) % 864000 = (s.persistCnt + n) % 864000 := by
  have hcount : s.consumed.persistCnt = if s.persistCnt = 1 then 864000 else s.persistCnt - 1 :=
    congrArg Int.toNat (State.nextPersist_eq h)
  rw [hcount]
  split <;> omega

/-- Only a CONSUME that is counted moves the countdown, and RESET, which clears the count, reloads it. -/
theorem step_persistCnt {s t : State} (h : step s = .next t) (h1 : 1 ≤ s.persistCnt) (n : Nat) :
    (s.nextInstr = some .reset ∧ t.persistCnt = 864000) ∨
      (s.nextInstr ≠ some .reset ∧
        (t.persistCnt + (n + s.consumesNext.toNat)) % 864000 = (s.persistCnt + n) % 864000) := by
  obtain ⟨i, rest, hi, ha⟩ := step_next_answers h
  rw [State.consumesNext_of_nextInstr hi, hi]
  cases ha with
  | restarted => exact .inl ⟨rfl, rfl⟩
  | consumed hr ho =>
    rw [State.present_ready] at hr
    rw [State.present_owed] at ho
    refine .inr ⟨by simp, ?_⟩
    simpa [hr, ho] using State.consumed_persistCnt (s := s.present rest) h1 n
  | underflowed hr ho =>
    rw [State.present_owed] at ho
    exact .inr ⟨by simp, by simp [State.faulted, ho]⟩
  | blocked hm hr =>
    rw [State.present_ready] at hr
    exact .inr ⟨by simp [(ne_of_agent_main hm).1], by simp [hr]⟩
  | idle => exact .inr ⟨by simp, by simp⟩
  | frozen => exact .inr ⟨by simp, by simp⟩
  | counted => exact .inr ⟨by simp, by simp⟩
  | overflowed => exact .inr ⟨by simp, by simp [State.faulted]⟩
  | matched => exact .inr ⟨by simp, by simp [State.matched]⟩
  | slept => exact .inr ⟨by simp, by simp [State.slept]⟩

/-- Every step keeps the countdown and the count at whole periods. -/
theorem Ledger.CountsPeriods.step {l : Ledger} {s t : State} (hl : l.CountsPeriods s)
    (h : Machine.step s = .next t) : (l.after s t).CountsPeriods t := by
  obtain ⟨hi, hc⟩ := hl
  refine ⟨hi.step h, ?_⟩
  rcases step_persistCnt h hi.persistLow l.consumed with ⟨hr, he⟩ | ⟨hr, he⟩
  · simp [Ledger.after, hr, he]
  · simp only [Ledger.after, if_neg hr]
    rw [he, hc]

/-- A unit owed to an awake machine means that the main context must wait (R178 (a)), and no underflow is
latched. -/
def ProtocolHeld (waiting : Bool) (s : State) : Prop :=
  (s.owed = true → s.sleeping = false → waiting = true) ∧ s.faultCause ≠ 1#2

/-- A ready machine is awake (R42). -/
theorem State.sleeping_of_ready {s : State} (h : s.ready = true) : s.sleeping = false := by
  cases hs : s.sleeping with
  | false => rfl
  | true => simp [State.ready_of_sleeping hs] at h

/-- The overflow fault latches no underflow (R190, R193). -/
theorem State.faulted_overflow_cause {s : State} (h : s.faultCause ≠ 1#2) :
    (s.faulted .backlogOverflow).faultCause ≠ 1#2 := by
  by_cases h0 : s.faultCause = 0#2
  · simp [State.faulted, h0, FaultCause.code]
  · simpa [State.faulted, h0] using h

/-- A step within the protocol keeps it, and takes no underflow: the CONSUME that would is one that the
protocol forbids. -/
theorem ProtocolHeld.step {waiting : Bool} {s t : State} (hp : ProtocolHeld waiting s)
    (hkeep : ¬ (waiting = true ∧ s.nextInstr = some .consume ∧ s.ready = true))
    (h : Machine.step s = .next t) : ProtocolHeld (mustWait waiting s t) t := by
  obtain ⟨hwait, hcause⟩ := hp
  obtain ⟨i, rest, hi, ha⟩ := step_next_answers h
  unfold ProtocolHeld mustWait
  rw [hi] at hkeep ⊢
  cases ha with
  | restarted => exact ⟨nofun, by simp [State.restarted]⟩
  | matched => exact ⟨nofun, hcause⟩
  | consumed hr ho =>
    rw [State.present_ready] at hr
    refine ⟨fun h _ => ?_, hcause⟩
    have hz : s.backlog = 0 := State.backlog_of_consumed_owed (s := s.present rest) ho h
    simp [State.consumed, State.z, hr, hz]
  | underflowed hr ho =>
    rw [State.present_ready] at hr
    exact absurd ⟨hwait ho (State.sleeping_of_ready hr), rfl, hr⟩ hkeep
  | slept => exact ⟨fun _ => nofun, hcause⟩
  | overflowed => exact ⟨by simpa [State.faulted] using hwait, State.faulted_overflow_cause hcause⟩
  | blocked hm hr =>
    rw [State.present_ready] at hr
    refine ⟨?_, hcause⟩
    rw [if_neg (by simp [(ne_of_agent_main hm).1])]
    simpa [hr] using hwait
  | idle => exact ⟨by simpa using hwait, hcause⟩
  | frozen => exact ⟨by simpa using hwait, hcause⟩
  | counted => exact ⟨by simpa using hwait, hcause⟩

/-- A run within the protocol ends without an underflow, by induction on its steps (R178 (a)). -/
theorem ProtocolHeld.run : ∀ (k : Nat) {waiting : Bool} {s t : State} {l l' : Ledger},
    ProtocolHeld waiting s → keepsProtocol k waiting s = true → runLedger k s l = some (t, l') →
    t.faultCause ≠ 1#2
  | 0, _, _, _, _, _, hp, _, h => by cases h; exact hp.2
  | k + 1, waiting, s, t, l, l', hp, hk, h => by
    unfold runLedger at h
    unfold keepsProtocol at hk
    split at h
    next u hu =>
      simp only [hu, Bool.and_eq_true, Bool.not_eq_true'] at hk
      obtain ⟨hnow, hlater⟩ := hk
      have hkeep : ¬ (waiting = true ∧ s.nextInstr = some .consume ∧ s.ready = true) := by
        rintro ⟨rfl, hc, hr⟩
        simp [hc, hr] at hnow
      exact ProtocolHeld.run k (hp.step hkeep hu) hlater h
    next => cases h

/-- With trim enabled a MATCH moves its whole interval into the accumulator, less the quantum of a
correction that is due (R103, R105). -/
theorem State.matched_acc_of_trimEn {s : State} (he : s.cfg.trimEn = true) :
    s.matched.acc + trimQuantum * s.trimDue.toNat = s.acc + (s.compareValue + 1) := by
  have hacc : s.accumulated = (s.acc : Int) + (s.compareValue + 1) := if_pos he
  show s.nextAcc.toNat + trimQuantum * s.trimDue.toNat = _
  unfold State.nextAcc
  cases hd : s.trimDue with
  | false => simp only [Bool.false_eq_true, if_false, Bool.toNat_false]; omega
  | true =>
    have hq : (trimQuantum : Int) ≤ s.accumulated := by
      simpa [State.trimDue, he] using hd
    simp only [if_true, Bool.toNat_true]
    omega

/-- The next step counts a timer clock only if it is a TCLK (R100). -/
theorem State.clocksNext_of_nextInstr {s t : State} {i : Instr} (h : s.nextInstr = some i) :
    s.clocksNext t = (decide (i = .tclk) && !s.halted && !t.halted) := by
  simp [State.clocksNext, h]

/-- Every step keeps the balance of R112: RESET clears all its terms, a TCLK below the compare value adds
one to the timer, and a MATCH moves the timer into the accumulator and the corrections. -/
theorem TrimLedger.balanced_step {s t : State} {l : TrimLedger} (he : s.cfg.trimEn = true)
    (hb : l.balanced s) (h : Machine.step s = .next t) : (l.after s t).balanced t := by
  obtain ⟨i, rest, hi, ha⟩ := step_next_answers h
  unfold TrimLedger.balanced at hb ⊢
  rw [TrimLedger.after, State.clocksNext_of_nextInstr hi, hi]
  cases ha with
  | restarted => rfl
  | matched hh hm =>
    have hacc : (s.present rest).matched.acc + trimQuantum * s.trimDue.toNat =
      s.acc + (s.compareValue + 1) := State.matched_acc_of_trimEn (s := s.present rest) he
    rw [State.present_halted] at hh
    rw [State.present_timerCount, State.present_compareValue] at hm
    have hz : (s.present rest).matched.timerCount = 0 := rfl
    have hrun : (s.present rest).matched.halted = false := hh
    have htick : (s.present rest).matched.out.tick = true := rfl
    simp only [hz, hrun, htick, hh]
    simp [Nat.mul_add]
    omega
  | counted hh hm =>
    rw [State.present_halted] at hh
    simp [hh]
    omega
  | overflowed => simpa [State.faulted] using hb
  | frozen hh =>
    rw [State.present_halted] at hh
    simpa [hh] using hb
  | idle => simpa using hb
  | blocked hm =>
    obtain ⟨hreset, htclk⟩ := ne_of_agent_main hm
    simpa [hreset, htclk] using hb
  | underflowed => simpa [State.faulted] using hb
  | consumed => simpa [State.consumed] using hb
  | slept => simpa [State.slept] using hb

end Sys2Proof.Machine
end

section
/-! The statements about every step and every run of 41_backlog_sleep.md, 45_environment_contracts.md and
40_tick_generator.md. -/

open Sys2Proof Sys2Proof.Machine

namespace Sys2Proof.Proofs

/-- Settles O53: a step moves the effective backlog and the counts together, and at most one unit is owed. -/
theorem stepKeepsTheLedger : Obligations.StepKeepsTheLedger := by
  unfold Obligations.StepKeepsTheLedger
  intro s t l hl h
  have hafter : (l.after s t).Agrees t := Ledger.Agrees.step hl h
  exact ⟨hafter, hafter.consumed_le⟩

/-- Settles O38: the agreement of the counts with the backlog, kept by every step, over the run. -/
theorem backlogIsProducedLessConsumed : Obligations.BacklogIsProducedLessConsumed := by
  unfold Obligations.BacklogIsProducedLessConsumed
  intro k s t l _ hz h
  have hend : l.Agrees t := runLedger_induction (P := fun s l => l.Agrees s)
    (fun _ _ _ hl => hl.step) k s t _ l (by simpa [Ledger.Agrees] using hz) h
  exact ⟨hend, hend.consumed_le⟩

/-- Settles O39: the count of whole periods, kept by every step, over the run. -/
theorem countdownCountsConsumes : Obligations.CountdownCountsConsumes := by
  unfold Obligations.CountdownCountsConsumes
  intro k s t l hi hp h
  have hend : l.CountsPeriods t := runLedger_induction (P := fun s l => l.CountsPeriods s)
    (fun _ _ _ hl => hl.step) k s t _ l ⟨hi, by simp [hp]⟩ h
  exact hend.2

/-- Settles O54: the one CONSUME that would underflow is the one that the protocol forbids. -/
theorem stepKeepsTheProtocol : Obligations.StepKeepsTheProtocol := by
  unfold Obligations.StepKeepsTheProtocol
  exact fun _ _ _ hw hc hkeep h => ProtocolHeld.step ⟨hw, hc⟩ hkeep h

/-- Settles O40: the protocol, kept by every step, over the run; at its start no unit is owed. -/
theorem protocolPreventsUnderflow : Obligations.ProtocolPreventsUnderflow := by
  unfold Obligations.ProtocolPreventsUnderflow
  intro k s t l l' ho hc hk h
  exact ProtocolHeld.run k ⟨by simp [ho], hc⟩ hk h

/-- Settles O55: each answer moves the terms of the balance together. -/
theorem stepKeepsTheTrimBalance : Obligations.StepKeepsTheTrimBalance := by
  unfold Obligations.StepKeepsTheTrimBalance
  exact fun _ _ _ he hb h => TrimLedger.balanced_step he hb h

end Sys2Proof.Proofs
end

section
/-! SUPPORT. What each operation leaves unchanged: RESET's forgetting, the frame of a TCLK, the halt, and
the write columns of R38. -/

namespace Sys2Proof.Machine

/-- RESET writes every element (R43). -/
theorem State.resetWrites_cover (s : State) (r : Reg) : ∃ v, (r, v) ∈ s.resetWrites := by
  cases r <;> simp [State.resetWrites]

/-- RESET's writes depend on the configuration and the two bytes of the trim slot alone (R161). -/
theorem State.resetWrites_congr {s u : State} (hc : s.cfg = u.cfg)
    (h4 : Memory.read s.nv 4 = Memory.read u.nv 4) (h5 : Memory.read s.nv 5 = Memory.read u.nv 5) :
    s.resetWrites = u.resetWrites := by
  have htrim : s.loadedTrim = u.loadedTrim := by
    rw [State.loadedTrim_eq, State.loadedTrim_eq, memRead_two, memRead_two, hc, h4, h5]
  simp only [State.resetWrites, hc, htrim]

/-- While halted, an operation other than RESET leaves the state as it is, or blocks its MAIN word (R195). -/
theorem exec_of_halted {i : Instr} {s : State} (hh : s.halted = true) (hn : i ≠ .reset) :
    exec i s = .next (if i.agent = .main then s.block i else s) := by
  have hr : s.ready = false := by simp [State.ready, hh]
  cases i with
  | idle => rfl
  | reset => exact absurd rfl hn
  | tclk => simp [exec, execTclk, hh, Instr.agent]
  | consume => exact exec_main_of_not_ready (.inl rfl) hr
  | sleep => exact exec_main_of_not_ready (.inr rfl) hr

/-- The causes that a machine can hold halted are R190's two (R35). -/
theorem State.Inv.faultCause_of_halted {s : State} (hi : s.Inv) (hh : s.halted = true) :
    s.faultCause = 1#2 ∨ s.faultCause = 2#2 := by
  have h0 := hi.haltedCause.mp hh
  have h3 := hi.causeWritten
  generalize s.faultCause = c at h0 h3
  revert c
  decide

/-- The debug line of a halted machine is the option's value (R195, R206). -/
theorem State.Inv.dbgOut_of_halted {s : State} (hi : s.Inv) (hh : s.halted = true) :
    s.dbgOut = s.cfg.debugLockupEn := by
  cases hd : s.dbgOut with
  | true => exact (hi.debug hd).2.symm
  | false =>
    cases he : s.cfg.debugLockupEn with
    | false => rfl
    | true => rw [← hd, hi.debugHeld hh he]

/-- A MATCH's writes are to the elements of R38's column MATCH. -/
theorem State.matchWrites_written (s : State) :
    ∀ w ∈ s.matchWrites, w.1 ∈ Column.matchOp.writes := by
  unfold State.matchWrites State.bankTick State.wakeWrites
  cases s.owed <;> cases s.sleeping <;> cases s.cfg.trimEn <;> simp [Column.writes]

/-- A MATCH leaves the elements outside its column of R38. -/
theorem State.matched_get_of_unwritten {s : State} {r : Reg} (hr : r ∉ Column.matchOp.writes) :
    s.matched.get r = s.get r := by
  rw [← State.putAll_matchWrites, State.putAll_get_of_unwritten, State.matchEvents_get]
  exact fun w hw e => hr (e ▸ s.matchWrites_written w hw)

/-- The column under which a CONSUME or a SLEEP acts when it is accepted (R131). -/
theorem mayWrite_consume_of_ready {s : State} (hr : s.ready = true) :
    mayWrite .consume s = (if s.owed then Column.faultEntry else Column.consume).writes := by
  cases ho : s.owed <;> simp [mayWrite, activeColumns, hr, ho]

theorem mayWrite_sleep_of_ready {s : State} (hr : s.ready = true) :
    mayWrite .sleep s = Column.sleep.writes := by
  simp [mayWrite, activeColumns, hr]

/-- The column under which a TCLK acts when the machine runs (R100, R102). -/
theorem mayWrite_tclk_of_running {s : State} (hh : s.halted = false) :
    mayWrite .tclk s = (if s.timerCount ≠ s.compareValue then Column.tclkNoMatch
      else if s.overflows then Column.faultEntry else Column.matchOp).writes := by
  simp only [mayWrite, activeColumns, hh, ← State.overflows_iff]
  split_ifs <;> simp_all

/-- Fault entry leaves the elements outside its column of R38. -/
theorem State.faulted_get_of_unwritten {s : State} {f : FaultCause} {r : Reg}
    (hr : r ∉ Column.faultEntry.writes) : (s.faulted f).get r = s.get r :=
  raiseFault_next_get (raiseFault_next_faulted f s) hr

/-- Every answer of an operation but RESET leaves the elements outside the column under which it acts
(R38). -/
theorem Answers.get_of_unwritten {i : Instr} {s t : State} {r : Reg} (h : Answers i s t)
    (hn : i ≠ .reset) (hr : r ∉ mayWrite i s) : t.get r = s.get r := by
  cases h with
  | idle => rfl
  | frozen => rfl
  | counted hh hm =>
    rw [mayWrite_tclk_of_running hh, if_pos hm] at hr
    exact State.get_set_of_ne (r := .timerCount) (by simpa [Column.writes] using hr) (s.timerCount + 1 : Nat)
  | overflowed hh hm ho =>
    rw [mayWrite_tclk_of_running hh, if_neg (not_not_intro hm), if_pos ho] at hr
    exact State.faulted_get_of_unwritten hr
  | matched hh hm ho =>
    rw [mayWrite_tclk_of_running hh, if_neg (not_not_intro hm), if_neg (by simp [ho])] at hr
    exact State.matched_get_of_unwritten hr
  | blocked => exact s.block_get _ r
  | underflowed hready ho =>
    rw [mayWrite_consume_of_ready hready, if_pos ho] at hr
    rw [State.faulted_get_of_unwritten hr, State.accept_get]
  | consumed hready ho =>
    rw [mayWrite_consume_of_ready hready, if_neg (by simp [ho])] at hr
    refine State.consumed_get_of_unwritten ?_
    simp only [Column.writes, List.mem_cons, List.not_mem_nil, or_false, not_or] at hr ⊢
    tauto
  | slept hready =>
    rw [mayWrite_sleep_of_ready hready] at hr
    exact (State.get_set_of_ne (s := s.accept .sleep) (r := .sleeping)
      (by simpa [Column.writes] using hr) 1).trans (s.accept_get .sleep r)
  | restarted => exact absurd rfl hn

/-- Every answer leaves the configuration and the words to come (R5, R45). -/
theorem Answers.launch {i : Instr} {s t : State} (h : Answers i s t) :
    t.cfg = s.cfg ∧ t.words = s.words := by
  cases h <;> exact ⟨rfl, rfl⟩

end Sys2Proof.Machine
end

section
/-! The statements of 10_state.md and 00_scope.md about frames and ownership, and of the operations one by
one. -/

open Sys2Proof Sys2Proof.Machine

namespace Sys2Proof.Proofs

/-- Settles O10: RESET completes and leaves `State.restarted`, whose fields are R43's values. -/
theorem resetGivesTheResetState : Obligations.ResetGivesTheResetState := by
  unfold Obligations.ResetGivesTheResetState
  intro s hl ht
  rw [← State.loadedTrim_eq] at ht ⊢
  rw [exec_reset_of_legal hl ht, State.putAll_resetWrites]
  rfl

/-- Settles O13: RESET writes every element, and its writes are the same in both states. -/
theorem resetForgetsThePast : Obligations.ResetForgetsThePast := by
  unfold Obligations.ResetForgetsThePast
  intro s s' t t' hc h4 h5 ht ht' r
  obtain ⟨v, hv⟩ := s.resetWrites_cover r
  have hv' : (r, v) ∈ s'.resetWrites := State.resetWrites_congr hc h4 h5 ▸ hv
  rw [exec_reset_get ht hv, exec_reset_get ht' hv']

/-- Settles O14: without trim nothing is loaded, and RESET's values for the default configuration are
those of `State.reset`. -/
theorem resetOfTheDefaultInstance : Obligations.ResetOfTheDefaultInstance := by
  unfold Obligations.ResetOfTheDefaultInstance
  intro s hc
  have htrim : s.loadedTrim = 0 := by simp [State.loadedTrim_eq, hc, defaultConfig]
  have hl : s.cfg.legal = true := by rw [hc]; decide
  have ht : s.cfg.trimLegal s.loadedTrim = true := by rw [hc]; rfl
  refine ⟨_, exec_reset_of_legal hl ht, fun r => ?_⟩
  have hsame : s.resetWrites = State.reset.resetWrites := by
    simp only [State.resetWrites, htrim, hc]
    rfl
  obtain ⟨v, hv⟩ := s.resetWrites_cover r
  have hreset : exec .reset State.reset = .next State.reset := rfl
  rw [exec_reset_get (exec_reset_of_legal hl ht) hv, exec_reset_get hreset (hsame ▸ hv)]

/-- Settles O15: the two TCLKs that are no match. -/
theorem tclkCountsUnlessHalted : Obligations.TclkCountsUnlessHalted := by
  unfold Obligations.TclkCountsUnlessHalted
  exact fun s => ⟨fun hh => exec_of_halted hh (by decide), exec_tclk_counts⟩

/-- Settles O19: a TCLK's answers differ from the state in the columns of TCLK alone, and a MATCH banks. -/
theorem matchLeavesTheMainContext : Obligations.MatchLeavesTheMainContext := by
  unfold Obligations.MatchLeavesTheMainContext
  intro s t h
  cases exec_next_answers h with
  | frozen => exact ⟨rfl, rfl, rfl, rfl, rfl, le_rfl⟩
  | counted => exact ⟨rfl, rfl, rfl, rfl, rfl, le_rfl⟩
  | overflowed => exact ⟨rfl, rfl, rfl, rfl, rfl, le_rfl⟩
  | matched =>
    refine ⟨rfl, rfl, rfl, rfl, rfl, ?_⟩
    simp only [State.matched]
    split <;> omega
  | blocked ha => cases ha

/-- Settles O20: blocked while asleep or halted, fault entry while a unit is owed, and otherwise
`State.consumed` with its countdown in naturals. -/
theorem consumeTakesOneTick : Obligations.ConsumeTakesOneTick := by
  unfold Obligations.ConsumeTakesOneTick
  intro s h1 hp hw hb
  by_cases hn : s.sleeping = true ∨ s.halted = true
  · have hr : s.ready = false := by simpa [State.ready, ← Bool.not_or] using hn
    rw [if_pos hn, exec_main_of_not_ready (.inl rfl) hr]
    rfl
  · have hr : s.ready = true := by simpa [State.ready] using hn
    rw [if_neg hn]
    cases ho : s.owed with
    | true =>
      rw [if_pos rfl, exec_consume_of_owed hr ho, raiseFault_next_faulted]
      simp [State.faulted, State.accept, FaultCause.code, ho]
    | false =>
      rw [if_neg (by simp), exec_consume_next hr ho h1 hp hw hb]
      simp only [State.consumed, State.nextPersist_eq h1, State.persistDue_eq, Int.toNat_natCast, ho,
        Bool.false_or]
      rfl

/-- Settles O21: SLEEP is blocked while asleep or halted, and otherwise accepted whatever is owed. -/
theorem sleepEntersSleep : Obligations.SleepEntersSleep := by
  unfold Obligations.SleepEntersSleep
  intro s
  by_cases hn : s.sleeping = true ∨ s.halted = true
  · have hr : s.ready = false := by simpa [State.ready, ← Bool.not_or] using hn
    rw [if_pos hn, exec_main_of_not_ready (.inr rfl) hr]
    rfl
  · have hr : s.ready = true := by simpa [State.ready] using hn
    rw [if_neg hn, exec_sleep_of_ready hr]
    rfl

/-- Settles O23: the ports by the invariant's clauses about the halt; the operations by `exec_of_halted`. -/
theorem haltedMachineIsFrozen : Obligations.HaltedMachineIsFrozen := by
  unfold Obligations.HaltedMachineIsFrozen
  intro s i hh hn
  refine ⟨by simp [State.ready, hh], fun hi => ⟨?_, hi.faultCause_of_halted hh, hi.dbgOut_of_halted hh⟩,
    _, exec_of_halted hh hn, ?_⟩
  · simpa [State.faultPort] using hi.haltedCause.mp hh
  · by_cases ha : i.agent = .main <;> simp [ha]

/-- Settles O24: a latched cause means a halt, and a halted machine is left as it is or blocks a word. -/
theorem faultStaysUntilReset : Obligations.FaultStaysUntilReset := by
  unfold Obligations.FaultStaysUntilReset
  intro s t hi hc h hn
  have hh : s.halted = true := hi.haltedCause.mpr hc
  obtain ⟨i, rest, hnext, he⟩ := step_next_exec h
  have hne : i ≠ .reset := fun e => hn (e ▸ hnext)
  rw [exec_of_halted (s := s.present rest) hh hne] at he
  cases he
  split <;> exact ⟨rfl, hh⟩

/-- Settles O26: each answer leaves the elements outside the column under which it comes about. -/
theorem operationsWriteOnlyTheirColumn : Obligations.OperationsWriteOnlyTheirColumn := by
  unfold Obligations.OperationsWriteOnlyTheirColumn
  exact fun _ _ _ _ hn h hr => (exec_next_answers h).get_of_unwritten hn hr

/-- Settles O29: every answer leaves the configuration and the words, of which the step has taken one. -/
theorem launchParametersAreConstant : Obligations.LaunchParametersAreConstant := by
  unfold Obligations.LaunchParametersAreConstant
  refine ⟨fun _ _ _ h => (exec_next_answers h).launch, fun s t h => ?_⟩
  obtain ⟨-, w, rest, i, hw, -, -, he⟩ := step_next h
  obtain ⟨hcfg, hwords⟩ := (exec_next_answers he).launch
  exact ⟨hcfg, w, by rw [hw, hwords, State.present_words]⟩

end Sys2Proof.Proofs
end

section
/-! SUPPORT. TCLKs one after the other: below the compare value they only move the timer, a TICK is one
MATCH, and `n` TICKs are `n` MATCHes that take the pattern's timer clocks (R87, R109, R118). -/

namespace Sys2Proof.Machine

/-- TCLKs performed in two goes. -/
theorem clocks_add (m n : Nat) (s : State) : clocks (m + n) s = andThen (clocks m s) (clocks n) := by
  induction m generalizing s with
  | zero => rw [Nat.zero_add]; rfl
  | succ m ih =>
    rw [Nat.succ_add, clocks, clocks]
    cases exec .tclk s with
    | next t => exact ih t
    | fault | refused => rfl

theorem clocks_one (s : State) : clocks 1 s = exec .tclk s := by
  rw [clocks]
  cases exec .tclk s <;> rfl

/-- TCLKs up to the compare value only move the timer (R118). -/
theorem clocks_below (n : Nat) {s : State} (hh : s.halted = false) (hc : s.compareValue ≤ maxOf s.cfg.cmpW)
    (hn : s.timerCount + n ≤ s.compareValue) :
    clocks n s = .next { s with timerCount := s.timerCount + n } := by
  induction n generalizing s with
  | zero => rfl
  | succ n ih =>
    rw [clocks, exec_tclk_counts hh (by omega) hc, andThen_of_next,
      ih (s := { s with timerCount := s.timerCount + 1 }) hh hc (by simp only; omega)]
    simp only [Nat.add_assoc, Nat.add_comm 1 n]

/-- A TICK is the TCLK that finds the timer at the compare value (R87, R118). -/
theorem tick_eq_exec_tclk {s : State} (hh : s.halted = false) (hc : s.compareValue ≤ maxOf s.cfg.cmpW)
    (ht : s.timerCount ≤ s.compareValue) :
    tick s = exec .tclk { s with timerCount := s.compareValue } := by
  have hreach : s.timerCount + (s.compareValue - s.timerCount) = s.compareValue := by omega
  rw [tick, State.clocksToMatch, clocks_add, clocks_below _ hh hc hreach.le, hreach, andThen_of_next,
    clocks_one]

/-- The TCLK at the compare value of a running machine is a MATCH (R100). -/
theorem exec_tclk_eq_matchStep {s : State} (hh : s.halted = false) (hm : s.timerCount = s.compareValue) :
    exec .tclk s = matchStep s := by
  simp [exec, execTclk, hh, hm]

/-- A TICK that does not overflow makes the MATCH of the state it starts in, which does not read the timer
(R101). -/
theorem State.Inv.tick_next {s : State} (hi : s.Inv) (hh : s.halted = false)
    (ho : s.overflows = false) : tick s = .next s.matched := by
  have hat : State.Inv { s with timerCount := s.compareValue } := { hi with timer := le_rfl }
  have htick := tick_eq_exec_tclk hh hi.compareValue_le hi.timer
  rcases hat.exec_tclk_match hh rfl with ⟨hno, -⟩ | ⟨-, he⟩
  · exact absurd (ho.symm.trans hno) (by decide)
  · exact htick.trans he

/-- Room for one more tick (R102). -/
theorem State.not_overflows {s : State}
    (hroom : s.effectiveBacklog + 1 ≤ s.cfg.backlogMax) : s.overflows = false := by
  cases ho : s.owed with
  | true => simp [State.overflows, ho]
  | false =>
    simp only [State.effectiveBacklog, ho, Bool.toInt_false] at hroom
    simp only [State.overflows, ho, Bool.not_false, Bool.true_and, decide_eq_false_iff_not]
    omega

/-- After a MATCH there is room for one tick less. -/
theorem State.matched_room {k : Nat} (s : State)
    (hroom : s.effectiveBacklog + (k + 1 : Nat) ≤ s.cfg.backlogMax) :
    s.matched.effectiveBacklog + k ≤ s.matched.cfg.backlogMax := by
  have hcfg : s.matched.cfg = s.cfg := rfl
  rw [s.matched_effectiveBacklog, hcfg]
  push_cast at hroom
  omega

/-- `k` MATCHes, one after the other. -/
def State.matchedTimes : Nat → State → State
  | 0, s     => s
  | k + 1, s => State.matchedTimes k s.matched

/-- What `k` MATCHes at the start of an interval, with room in the backlog, leave of a running machine. -/
structure AfterMatches (k : Nat) (s t : State) : Prop where
  ticks     : ticks k s = .next t
  inv       : t.Inv
  running   : t.halted = false
  timer     : t.timerCount = 0
  cfg       : t.cfg = s.cfg
  position  : t.cyclePosition = (s.cyclePosition + k) % s.cfg.cycles
  effective : t.effectiveBacklog = s.effectiveBacklog + k
  frame     : t.trimOffset = s.trimOffset ∧ t.snap = s.snap ∧ t.persistCnt = s.persistCnt ∧
    t.faultCause = s.faultCause ∧ t.dbgOut = s.dbgOut
  repaid    : 0 < k → t.owed = false ∧ t.sleeping = false

/-- `k` TICKs that the backlog has room for are `k` MATCHes, by induction on `k`. -/
theorem State.Inv.matchedTimes (k : Nat) {s : State} (hi : s.Inv) (hh : s.halted = false)
    (hz : s.timerCount = 0) (hroom : s.effectiveBacklog + k ≤ s.cfg.backlogMax) :
    AfterMatches k s (s.matchedTimes k) := by
  induction k generalizing s with
  | zero =>
    exact {
      ticks := rfl, inv := hi, running := hh, timer := hz, cfg := rfl
      position := (Nat.mod_eq_of_lt hi.position).symm
      effective := by simp [State.matchedTimes]
      frame := ⟨rfl, rfl, rfl, rfl, rfl⟩
      repaid := fun h => absurd h (Nat.lt_irrefl 0) }
  | succ k ih =>
    have ho : s.overflows = false := State.not_overflows (by omega)
    have hbank := s.matched_effectiveBacklog
    have hrest := ih (hi.matched ho) hh rfl (s.matched_room hroom)
    exact {
      ticks := by rw [Machine.ticks, hi.tick_next hh ho, andThen_of_next]; exact hrest.ticks
      inv := hrest.inv, running := hrest.running, timer := hrest.timer, cfg := hrest.cfg
      position := by
        have hcfg : s.matched.cfg = s.cfg := rfl
        rw [State.matchedTimes, hrest.position, hi.matched_position, hcfg, Nat.mod_add_mod,
          Nat.add_assoc, Nat.add_comm 1 k]
      effective := by rw [State.matchedTimes, hrest.effective, hbank]; push_cast; omega
      frame := hrest.frame
      repaid := fun _ => by
        cases k with
        | zero => exact ⟨rfl, rfl⟩
        | succ k => exact hrest.repaid k.succ_pos }

/-- Without trim the compare value is the pattern's (R46 (d), R111). -/
theorem State.Inv.compareValue_of_no_trim {s : State} (hi : s.Inv) (he : s.cfg.trimEn = false) :
    s.compareValue = s.cfg.nominalAt s.cyclePosition := by
  rcases hi.compare with h | ⟨ht, -⟩
  · rw [h, hi.nominal]
  · rw [he] at ht; cases ht

/-- The timer clocks of `k` intervals from a place of the pattern on, without trim (R109). -/
def windowClocks (c : Config) (pos k : Nat) : Nat :=
  ∑ j ∈ Finset.range k, (c.nominalAt ((pos + j) % c.cycles) + 1)

/-- The first interval of a window, and the window after it. -/
theorem windowClocks_succ (c : Config) (pos k : Nat) : windowClocks c pos (k + 1) =
    (c.nominalAt (pos % c.cycles) + 1) + windowClocks c (pos + 1) k := by
  simp only [windowClocks]
  rw [Finset.sum_range_succ', Nat.add_comm]
  simp only [Nat.add_zero, Nat.add_assoc, Nat.add_comm 1]

/-- A window's clocks depend on its place modulo the pattern. -/
theorem windowClocks_mod (c : Config) (pos k : Nat) :
    windowClocks c (pos % c.cycles) k = windowClocks c pos k := by
  simp only [windowClocks, Nat.mod_add_mod]

/-- A window of a whole pattern moved by one interval loses one interval and gains the same one. -/
theorem windowClocks_shift (c : Config) (pos : Nat) :
    windowClocks c (pos + 1) c.cycles = windowClocks c pos c.cycles := by
  have hfirst := windowClocks_succ c pos c.cycles
  have hlast : windowClocks c pos (c.cycles + 1) =
      windowClocks c pos c.cycles + (c.nominalAt (pos % c.cycles) + 1) := by
    rw [windowClocks, Finset.sum_range_succ, Nat.add_mod_right]
    rfl
  omega

/-- The first `n` intervals of the pattern: a long one for each of the first `LONG_CYCLES` (R111). -/
theorem windowClocks_start {c : Config} {n : Nat} (hn : n ≤ c.cycles) : windowClocks c 0 n =
    (c.base + 1) * (n - c.longCycles) + (c.base + 2) * min n c.longCycles := by
  induction n with
  | zero => simp [windowClocks]
  | succ n ih =>
    have hlast : windowClocks c 0 (n + 1) =
        windowClocks c 0 n + (c.nominalAt n + 1) := by
      rw [windowClocks, Finset.sum_range_succ, Nat.zero_add, Nat.mod_eq_of_lt hn]
      rfl
    rw [hlast, ih (Nat.le_of_succ_le hn), Config.nominalAt]
    by_cases h : n < c.longCycles
    · have h' : n + 1 ≤ c.longCycles := h
      rw [if_pos h, Nat.sub_eq_zero_of_le h.le, Nat.sub_eq_zero_of_le h', Nat.min_eq_left h.le,
        Nat.min_eq_left h']
      ring
    · have h' : c.longCycles ≤ n := Nat.le_of_not_lt h
      rw [if_neg h, Nat.min_eq_right h', Nat.min_eq_right (h'.trans n.le_succ), Nat.sub_add_comm h']
      ring

/-- Any window of a whole pattern takes R109's total, aligned to the pattern or not. -/
theorem windowClocks_cycles {c : Config} (hl : c.longCycles ≤ c.cycles) (pos : Nat) :
    windowClocks c pos c.cycles = c.patternClocks := by
  induction pos with
  | zero => rw [windowClocks_start le_rfl, Nat.min_eq_right hl, Config.patternClocks]
  | succ pos ih => rw [windowClocks_shift, ih]

/-- `k` TICKs without trim are the TCLKs of their window, by induction on `k` (R109). -/
theorem State.Inv.ticks_eq_clocks (k : Nat) {s : State} (hi : s.Inv) (he : s.cfg.trimEn = false)
    (hh : s.halted = false) (hz : s.timerCount = 0)
    (hroom : s.effectiveBacklog + k ≤ s.cfg.backlogMax) :
    ticks k s = clocks (windowClocks s.cfg s.cyclePosition k) s := by
  induction k generalizing s with
  | zero => rfl
  | succ k ih =>
    have ho : s.overflows = false := State.not_overflows (by omega)
    have hfirst : s.cfg.nominalAt (s.cyclePosition % s.cfg.cycles) + 1 = s.clocksToMatch := by
      rw [Nat.mod_eq_of_lt hi.position, ← hi.compareValue_of_no_trim he, State.clocksToMatch, hz,
        Nat.sub_zero]
    have hwindow : windowClocks s.matched.cfg s.matched.cyclePosition k =
        windowClocks s.cfg (s.cyclePosition + 1) k := by
      rw [hi.matched_position]
      exact windowClocks_mod s.cfg _ k
    have hrest := ih (hi.matched ho) he hh rfl (s.matched_room hroom)
    have htick : clocks s.clocksToMatch s = .next s.matched := hi.tick_next hh ho
    rw [ticks, hi.tick_next hh ho, andThen_of_next, hrest, hwindow, windowClocks_succ, hfirst, clocks_add,
      htick, andThen_of_next]

/-- TCLKs that answer below the compare value have moved the timer alone, in any state. -/
theorem clocks_next_below (n : Nat) {s t : State} (hh : s.halted = false)
    (hn : s.timerCount + n ≤ s.compareValue) (h : clocks n s = .next t) :
    t = { s with timerCount := s.timerCount + n } := by
  induction n generalizing s with
  | zero => cases h; rfl
  | succ n ih =>
    rw [clocks, andThen_next] at h
    obtain ⟨u, hu, h⟩ := h
    cases exec_next_answers hu with
    | counted =>
      rw [ih (s := { s with timerCount := s.timerCount + 1 }) hh (by simp only; omega) h]
      simp only [Nat.add_assoc, Nat.add_comm 1 n]
    | frozen hs => simp [hh] at hs
    | overflowed _ hm => omega
    | matched _ hm => omega
    | blocked ha => cases ha

/-- A halted machine stays as it is at every TCLK (R100). -/
theorem clocks_of_halted (n : Nat) {s : State} (hh : s.halted = true) : clocks n s = .next s := by
  induction n with
  | zero => rfl
  | succ n ih => rw [clocks, exec_of_halted hh (by decide), if_neg (by decide), andThen_of_next, ih]

/-- A TICK that leaves a running machine has made its MATCH, in any state (R101). -/
theorem tick_next_matched {s t : State} (hz : s.timerCount ≤ s.compareValue) (h : tick s = .next t)
    (hrun : t.halted = false) : t = s.matched := by
  cases hh : s.halted with
  | true =>
    rw [tick, clocks_of_halted _ hh] at h
    cases h
    rw [hh] at hrun
    cases hrun
  | false =>
    rw [tick, State.clocksToMatch, clocks_add, andThen_next] at h
    obtain ⟨u, hu, h⟩ := h
    obtain rfl := clocks_next_below _ hh (by omega) hu
    rw [clocks_one] at h
    cases exec_next_answers h with
    | matched => rfl
    | frozen hs => exact absurd hrun (by simpa using hs)
    | counted _ hm => exact absurd (by simp only; omega) hm
    | overflowed => cases hrun
    | blocked ha => cases ha

/-- The totals of one TICK and of those after it. -/
theorem tickTotals_succ {n : Nat} {s t : State} {e c : Nat}
    (h : tickTotals (n + 1) s = some (t, e, c)) :
    ∃ u e' c', tick s = .next u ∧ u.halted = false ∧ tickTotals n u = some (t, e', c') ∧
      e = s.clocksToMatch + e' ∧ c = s.trimDue.toNat + c' := by
  unfold tickTotals at h
  split at h
  next u hu =>
    split at h
    next => cases h
    next hrun =>
      obtain ⟨⟨t', e', c'⟩, hp, heq⟩ := Option.map_eq_some_iff.mp h
      cases heq
      exact ⟨u, e', c', hu, by simpa using hrun, hp, rfl, rfl⟩
  next => cases h

/-- Over consecutive TICKs the elapsed clocks go into the accumulator and the corrections, by induction on
their number (R103, R105). -/
theorem tickTotals_balance (n : Nat) {s t : State} {e c : Nat} (he : s.cfg.trimEn = true)
    (hz : s.timerCount = 0) (h : tickTotals n s = some (t, e, c)) :
    t.acc + trimQuantum * c = s.acc + e := by
  induction n generalizing s e c with
  | zero => cases h; rfl
  | succ n ih =>
    obtain ⟨u, e', c', hu, hrun, hrest, rfl, rfl⟩ := tickTotals_succ h
    obtain rfl := tick_next_matched (by omega) hu hrun
    have hfirst := State.matched_acc_of_trimEn he
    have hlater := ih (s := s.matched) he rfl hrest
    rw [State.clocksToMatch, hz, Nat.mul_add]
    omega

/-- A CONSUME with nothing banked owes its unit and reads an empty backlog (R132, R134). -/
theorem State.consumed_of_empty {s : State} (hb : s.backlog = 0) :
    s.consumed.owed = true ∧ s.consumed.backlog = 0 ∧ s.consumed.snap = 0 := by
  simp [State.consumed, hb]

/-- A machine that owes a unit takes its next MATCH without overflow (R102). -/
theorem State.overflows_of_owed {s : State} (ho : s.owed = true) : s.overflows = false := by
  simp [State.overflows, ho]

end Sys2Proof.Machine
end

section
/-! The statements about whole TICKs of 40_tick_generator.md, 70_reset_and_hazards.md and
41_backlog_sleep.md. -/

open Sys2Proof Sys2Proof.Machine

namespace Sys2Proof.Proofs

/-- Settles O41: TCLKs up to the compare value move the timer, and the next one finds it there. -/
theorem tickIsOneMatch : Obligations.TickIsOneMatch := by
  unfold Obligations.TickIsOneMatch
  intro s hi hh
  have ht := hi.timer
  refine ⟨fun n hn => clocks_below n hh hi.compareValue_le ?_,
    (tick_eq_exec_tclk hh hi.compareValue_le ht).trans (exec_tclk_eq_matchStep hh rfl)⟩
  rw [State.clocksToMatch] at hn
  omega

/-- Settles O42: `k` MATCHes from the start of the pattern stand at place `k`, and the invariant says which
compare value stands there. -/
theorem patternOfCompareValues : Obligations.PatternOfCompareValues := by
  unfold Obligations.PatternOfCompareValues
  intro s k hi he hh hz hpos hk hroom
  have hm := hi.matchedTimes k hh hz hroom
  have hplace : (s.matchedTimes k).cyclePosition = k := by
    rw [hm.position, hpos, Nat.zero_add, Nat.mod_eq_of_lt hk]
  refine ⟨_, hm.ticks, hm.running, hm.timer, hplace, ?_⟩
  rw [hm.inv.compareValue_of_no_trim (hm.cfg ▸ he), hplace, hm.cfg, Config.nominalAt]

/-- Settles O43: a whole pattern of MATCHes comes back to its place, so the invariant gives the same compare
values; its window takes R109's total wherever it starts. -/
theorem windowTakesExactlyThePatternClocks : Obligations.WindowTakesExactlyThePatternClocks := by
  unfold Obligations.WindowTakesExactlyThePatternClocks
  intro s hi he hh hz hroom
  obtain ⟨⟨-, hlong, -⟩, -⟩ := Config.legal_iff.mp hi.legal
  have hm := hi.matchedTimes s.cfg.cycles hh hz hroom
  have hclocks : ticks s.cfg.cycles s = clocks s.cfg.patternClocks s := by
    rw [hi.ticks_eq_clocks _ he hh hz hroom, windowClocks_cycles hlong]
  have hplace : (s.matchedTimes s.cfg.cycles).cyclePosition = s.cyclePosition := by
    rw [hm.position, Nat.add_mod_right, Nat.mod_eq_of_lt hi.position]
  have he' : (s.matchedTimes s.cfg.cycles).cfg.trimEn = false := by rw [hm.cfg, he]
  obtain ⟨htrim, hsnap, hpersist, hcause, hdbg⟩ := hm.frame
  obtain ⟨howed, hsleep⟩ := hm.repaid (Nat.zero_lt_of_lt hi.position)
  refine ⟨hclocks, _, hclocks ▸ hm.ticks, hm.effective, hsleep, hm.timer, hplace, ?_, ?_, ?_, htrim, howed,
    hsnap, hpersist, hcause, hm.running, hdbg⟩
  · rw [hm.inv.nominal, hi.nominal, hplace, hm.cfg]
  · rw [hm.inv.compareValue_of_no_trim he', hi.compareValue_of_no_trim he, hplace, hm.cfg]
  · rw [hm.inv.accZero he', hi.accZero he]

/-- Settles O44: the reset state stands at the start of an interval of `BASE + 1` with nothing banked; the
TCLKs of that interval are one TICK. -/
theorem firstTickAfterReset : Obligations.FirstTickAfterReset := by
  unfold Obligations.FirstTickAfterReset
  intro s t hl hq hmax h
  obtain ⟨rfl, ht⟩ := exec_reset_next_restarted h
  have hi := State.restarted_inv hl hq ht
  have hh : s.restarted.halted = false := rfl
  refine ⟨fun n hn => ⟨_, clocks_below n hh hi.compareValue_le ?_, rfl, rfl⟩,
    s.restarted.matched, ?_, rfl, rfl⟩
  · have hz : s.restarted.timerCount = 0 := rfl
    have hc : s.restarted.compareValue = s.cfg.base + 1 := rfl
    omega
  · have hroom : s.restarted.effectiveBacklog + 1 ≤ s.restarted.cfg.backlogMax := by
      exact_mod_cast (by simpa [State.effectiveBacklog, State.restarted] using hmax)
    exact hi.tick_next hh (State.not_overflows hroom)

/-- Settles O45: the CONSUME owes its unit and is followed by the SLEEP; the MATCH of the TICK repays the
unit and wakes. -/
theorem steadyStateIsPacedByTicks : Obligations.SteadyStateIsPacedByTicks := by
  unfold Obligations.SteadyStateIsPacedByTicks
  intro s hi hs hh hb ho
  have hr : s.ready = true := by simp [State.ready, hs, hh]
  obtain ⟨howed, hbacklog, hsnap⟩ := State.consumed_of_empty hb
  have hready : s.consumed.ready = true := hr
  have hctick : ctick s = .next s.consumed.slept := by
    rw [ctick, hi.exec_consume hr ho, andThen_of_next, hr, State.z, hsnap]
    exact exec_sleep_of_ready hready
  have htick : tick s.consumed.slept = .next s.consumed.slept.matched :=
    (hi.consumed ho).slept.tick_next hh (State.overflows_of_owed howed)
  have hbank : s.consumed.slept.matched.backlog = 0 := (if_pos howed).trans hbacklog
  exact ⟨_, _, hctick, rfl, howed, hsnap, htick, rfl, rfl, hbank, hh, rfl, Bool.or_true _⟩

/-- Settles O46: the first MATCH repays the unit of the CONSUME, so the second, which wakes, banks one. -/
theorem sleepEntryRaceBanksOneTick : Obligations.SleepEntryRaceBanksOneTick := by
  unfold Obligations.SleepEntryRaceBanksOneTick
  intro s hi hs hh hb ho hmax
  have hr : s.ready = true := by simp [State.ready, hs, hh]
  obtain ⟨howed, hbacklog, hsnap⟩ := State.consumed_of_empty hb
  have hi₁ := hi.consumed ho
  have hno₁ := State.overflows_of_owed howed
  have hi₂ := hi₁.matched hno₁
  have hbank₁ : s.consumed.matched.backlog = 0 := (if_pos howed).trans hbacklog
  have hready : s.consumed.matched.ready = true := by
    simp [State.ready, State.matched, State.consumed, State.accept, hh]
  have hno₂ : s.consumed.matched.slept.overflows = false := by
    refine State.not_overflows ?_
    have heff : s.consumed.matched.slept.effectiveBacklog = 0 := by
      have hpaid : s.consumed.matched.slept.owed = false := rfl
      have hsame : s.consumed.matched.slept.backlog = s.consumed.matched.backlog := rfl
      simp [State.effectiveBacklog, hpaid, hsame, hbank₁]
    rw [heff]
    exact_mod_cast hmax
  have hbank₂ : s.consumed.matched.slept.matched.backlog = 1 := by
    have : s.consumed.matched.slept.matched.backlog = s.consumed.matched.backlog + 1 := rfl
    rw [this, hbank₁]
  exact ⟨_, _, _, _, hi.exec_consume hr ho, hsnap, hi₁.tick_next hh hno₁, rfl, rfl,
    exec_sleep_of_ready hready, rfl, hi₂.slept.tick_next hh hno₂, rfl, hbank₂, rfl, hh⟩

/-- Settles O47: the balance of each TICK, summed by induction on their number. -/
theorem trimCorrectsOncePerQuantum : Obligations.TrimCorrectsOncePerQuantum := by
  unfold Obligations.TrimCorrectsOncePerQuantum
  exact fun n _ _ _ _ he hz h => tickTotals_balance n he hz h

end Sys2Proof.Proofs
end

section
/-! SUPPORT. States that an operation cannot tell apart: if they agree on the elements that the operation's
columns of R38 read, and are related so that its writes keep the relation, then its outcomes are the same
stop, or related next states. One lemma per operation, for the read columns (R38), the debug option (R208),
the non-volatile space (R72) and the outputs (R41). -/

namespace Sys2Proof.Machine

/-- The same stop, or next states related by `R`. -/
inductive Alike (R : State → State → Prop) : Outcome → Outcome → Prop
  | next {s u : State} (h : R s u) : Alike R (.next s) (.next u)
  | fault (r : Fault) : Alike R (.fault r) (.fault r)
  | refused (r : Refusal) : Alike R (.refused r) (.refused r)

/-- Outcomes related by a change of the state are that change of the outcome. -/
theorem Alike.eq_mapNext {g : State → State} {o p : Outcome} (h : Alike (fun s u => u = g s) o p) :
    p = mapNext g o := by
  cases h with
  | next h => rw [h]; rfl
  | fault | refused => rfl

/-- Outcomes whose states look alike through `g` are the same outcome through `g`. -/
theorem Alike.mapNext_eq {g : State → State} {o p : Outcome} (h : Alike (fun s u => g s = g u) o p) :
    mapNext g o = mapNext g p := by
  cases h with
  | next h => exact congrArg Host.Outcome.next h
  | fault | refused => rfl

/-- Outcomes alike go on alike. -/
theorem Alike.andThen {R : State → State → Prop} {o p : Outcome} {f : State → Outcome}
    (h : Alike R o p) (hf : ∀ s u, R s u → Alike R (f s) (f u)) :
    Alike R (andThen o f) (andThen p f) := by
  cases h with
  | next h => exact hf _ _ h
  | fault r => exact .fault r
  | refused r => exact .refused r

/-- A configuration with the debug option left out: what the operations read of it but for the option. -/
def plainConfig (c : Config) : Config := { c with debugLockupEn := false }

/-- The ranges of the registers do not depend on the debug option. -/
theorem fits_plainConfig (c : Config) (r : Reg) (v : Int) : r.fits (plainConfig c) v = r.fits c v := by
  cases r <;> rfl

/-- `R` relates states that the columns `cs` of R38 cannot tell apart, and is kept by what an operation
under them does. -/
structure Indistinct (R : State → State → Prop) (cs : List Column) : Prop where
  cfg      : ∀ {s u}, R s u → plainConfig u.cfg = plainConfig s.cfg
  reads    : ∀ {s u}, R s u → ∀ c ∈ cs, ∀ r ∈ c.reads, u.get r = s.get r
  writes   : ∀ {s u}, R s u → ∀ c ∈ cs, ∀ r ∈ c.writes, ∀ v, R (s.set r v) (u.set r v)
  faults   : ∀ {s u}, R s u → .faultEntry ∈ cs → ∀ f, R (s.faulted f) (u.faulted f)
  ticks    : ∀ {s u}, R s u → R s.emitTick u.emitTick
  wakes    : ∀ {s u}, R s u → R s.emitWake u.emitWake
  persists : ∀ {s u}, R s u → R s.emitPersistReq u.emitPersistReq
  blocks   : ∀ {s u}, R s u → ∀ i, R (s.block i) (u.block i)
  accepts  : ∀ {s u}, R s u → ∀ i, R (s.accept i) (u.accept i)

section Commit

variable {R : State → State → Prop}

/-- Writes that each keep a relation keep it together. -/
theorem putAll_related {ws : Writes} (hset : ∀ w ∈ ws, ∀ s u, R s u → R (s.set w.1 w.2) (u.set w.1 w.2))
    {s u : State} (h : R s u) : R (s.putAll ws) (u.putAll ws) := by
  induction ws generalizing s u with
  | nil => exact h
  | cons w ws ih =>
    obtain ⟨hw, hws⟩ := List.forall_mem_cons.mp hset
    exact ih hws (hw s u h)

/-- The same writes to related states: the same stop, or related states. -/
theorem commit_alike {ws : Writes} (hset : ∀ w ∈ ws, ∀ s u, R s u → R (s.set w.1 w.2) (u.set w.1 w.2))
    {s u : State} (hcfg : plainConfig u.cfg = plainConfig s.cfg) (h : R s u) :
    Alike R (commit s ws) (commit u ws) := by
  have hfits : (fun w : Reg × Int => !w.1.fits u.cfg w.2) = fun w => !w.1.fits s.cfg w.2 := by
    funext w
    rw [← fits_plainConfig u.cfg, hcfg, fits_plainConfig]
  have hmisfit : firstMisfit u.cfg ws = firstMisfit s.cfg ws := by
    rw [firstMisfit, hfits, firstMisfit]
  unfold commit
  rw [hmisfit]
  cases firstMisfit s.cfg ws with
  | none => exact .next (putAll_related hset h)
  | some r => exact .fault _

end Commit

/-- One bit is settled by its reading as an integer. -/
theorem bool_eq_of_toInt {a b : Bool} (h : a.toInt = b.toInt) : a = b := by
  cases a <;> cases b <;> simp_all

section Operations

variable {R : State → State → Prop} {cs : List Column} {s u : State}

/-- The writes of a column keep the relation. -/
theorem Indistinct.writes_of_mem (hI : Indistinct R cs) {c : Column} (hc : c ∈ cs) {ws : Writes}
    (hw : ∀ w ∈ ws, w.1 ∈ c.writes) :
    ∀ w ∈ ws, ∀ s u, R s u → R (s.set w.1 w.2) (u.set w.1 w.2) :=
  fun w hm _ _ h => hI.writes h c hc w.1 (hw w hm) w.2

/-- Fault entry under its column. -/
theorem Indistinct.raiseFault_alike (hI : Indistinct R cs) (hc : .faultEntry ∈ cs) (h : R s u)
    (f : FaultCause) : Alike R (raiseFault f s) (raiseFault f u) := by
  rw [raiseFault_next_faulted, raiseFault_next_faulted]
  exact .next (hI.faults h hc f)

/-- What the column MATCH reads, field by field. -/
theorem Indistinct.match_reads (hI : Indistinct R cs) (hc : .matchOp ∈ cs) (h : R s u) :
    (u.timerCount = s.timerCount ∧ u.compareValue = s.compareValue ∧
      u.nominalCompare = s.nominalCompare ∧ u.cyclePosition = s.cyclePosition) ∧
    (u.acc = s.acc ∧ u.trimOffset = s.trimOffset ∧ u.backlog = s.backlog) ∧
      u.owed = s.owed ∧ u.sleeping = s.sleeping ∧ u.halted = s.halted := by
  have hr : ∀ r ∈ Column.matchOp.reads, u.get r = s.get r := hI.reads h _ hc
  simp only [Column.reads, List.forall_mem_cons, State.get_timerCount, State.get_compareValue,
    State.get_nominalCompare, State.get_cyclePosition, State.get_acc, State.get_trimOffset,
    State.get_backlog, State.get_owed, State.get_sleeping, State.get_halted, Nat.cast_inj] at hr
  obtain ⟨h1, h2, h3, h4, h5, h6, h7, h8, h9, h10, -⟩ := hr
  exact ⟨⟨h1, h2, h3, h4⟩, ⟨h5, h6, h7⟩, bool_eq_of_toInt h8, bool_eq_of_toInt h9,
    bool_eq_of_toInt h10⟩

/-- What the column CONSUME reads, field by field. -/
theorem Indistinct.consume_reads (hI : Indistinct R cs) (hc : .consume ∈ cs) (h : R s u) :
    u.backlog = s.backlog ∧ u.owed = s.owed ∧ u.sleeping = s.sleeping ∧
      u.persistCnt = s.persistCnt ∧ u.halted = s.halted := by
  have hr : ∀ r ∈ Column.consume.reads, u.get r = s.get r := hI.reads h _ hc
  simp only [Column.reads, List.forall_mem_cons, State.get_backlog, State.get_owed,
    State.get_sleeping, State.get_persistCnt, State.get_halted, Nat.cast_inj] at hr
  obtain ⟨h1, h2, h3, h4, h5, -⟩ := hr
  exact ⟨h1, bool_eq_of_toInt h2, bool_eq_of_toInt h3, h4, bool_eq_of_toInt h5⟩

/-- What the column SLEEP reads, field by field. -/
theorem Indistinct.sleep_reads (hI : Indistinct R cs) (hc : .sleep ∈ cs) (h : R s u) :
    u.sleeping = s.sleeping ∧ u.halted = s.halted := by
  have hr : ∀ r ∈ Column.sleep.reads, u.get r = s.get r := hI.reads h _ hc
  simp only [Column.reads, List.forall_mem_cons, State.get_sleeping, State.get_halted] at hr
  obtain ⟨h1, h2, -⟩ := hr
  exact ⟨bool_eq_of_toInt h1, bool_eq_of_toInt h2⟩

/-- What the operations read of the configuration. -/
theorem params_of_plainConfig {c d : Config} (h : plainConfig d = plainConfig c) :
    d.cycles = c.cycles ∧ d.longCycles = c.longCycles ∧ d.base = c.base ∧ d.trimEn = c.trimEn ∧
      d.backlogMax = c.backlogMax ∧ d.legal = c.legal ∧ d.trimLegal = c.trimLegal := by
  have hread {α : Type} (f : Config → α) : f (plainConfig d) = f (plainConfig c) := congrArg f h
  exact ⟨hread Config.cycles, hread Config.longCycles, hread Config.base, hread Config.trimEn,
    hread Config.backlogMax, hread Config.legal, hread Config.trimLegal⟩

/-- A MATCH that cannot tell two states apart makes the same test and the same writes. -/
theorem Indistinct.match_same (hI : Indistinct R cs) (hc : .matchOp ∈ cs) (h : R s u) :
    u.overflows = s.overflows ∧ u.matchWrites = s.matchWrites := by
  obtain ⟨⟨-, hcmp, hnom, hpos⟩, ⟨hacc, htrim, hback⟩, howed, hsleep, -⟩ := hI.match_reads hc h
  obtain ⟨hcycles, hlong, hbase, hen, hmax, -⟩ := params_of_plainConfig (hI.cfg h)
  have hnom' : u.nextNominal = s.nextNominal := by
    unfold State.nextNominal
    rw [hpos, hcycles, hlong, hbase, hnom]
  have hpos' : u.nextPosition = s.nextPosition := by
    unfold State.nextPosition
    rw [hpos, hcycles]
  have hsum : u.accumulated = s.accumulated := by
    unfold State.accumulated
    rw [hen, hacc, hcmp]
  have hdue : u.trimDue = s.trimDue := by
    unfold State.trimDue
    rw [hen, hsum]
  refine ⟨by unfold State.overflows; rw [howed, hback, hmax], ?_⟩
  unfold State.matchWrites State.bankTick State.wakeWrites State.nextCompare State.nextAcc
  rw [howed, hback, hsleep, hpos', hnom', hdue, htrim, hen, hsum]

/-- The events of a MATCH keep the relation. -/
theorem Indistinct.matchEvents (hI : Indistinct R cs) (hc : .matchOp ∈ cs) (h : R s u) :
    R s.matchEvents u.matchEvents := by
  obtain ⟨-, -, -, hsleep, -⟩ := hI.match_reads hc h
  unfold State.matchEvents
  rw [hsleep]
  split
  · exact hI.ticks (hI.wakes h)
  · exact hI.ticks h

/-- TCLK takes the same branch in both states. -/
theorem Indistinct.tclk_alike (hI : Indistinct R (columns .tclk)) (h : R s u) :
    Alike R (exec .tclk s) (exec .tclk u) := by
  have hmatch : Column.matchOp ∈ columns .tclk := by decide
  have hcount : Column.tclkNoMatch ∈ columns .tclk := by decide
  obtain ⟨⟨htimer, hcmp, -⟩, -, -, -, hhalted⟩ := hI.match_reads hmatch h
  obtain ⟨hover, hwrites⟩ := hI.match_same hmatch h
  simp only [exec, execTclk, matchStep, htimer, hcmp, hhalted, hover, hwrites]
  split_ifs
  · exact .next h
  · exact hI.raiseFault_alike (by decide) h _
  · have hev := hI.matchEvents hmatch h
    exact commit_alike (hI.writes_of_mem hmatch s.matchWrites_written) (hI.cfg hev) hev
  · exact commit_alike (hI.writes_of_mem hcount (by simp [Column.writes])) (hI.cfg h) h

/-- An accepted CONSUME takes the same branch in both states. -/
theorem Indistinct.consumeStep_alike (hI : Indistinct R (columns .consume)) (h : R s u) :
    Alike R (consumeStep s) (consumeStep u) := by
  have hconsume : Column.consume ∈ columns .consume := by decide
  obtain ⟨hback, howed, -, hpersist, -⟩ := hI.consume_reads hconsume h
  have hdue : u.persistDue = s.persistDue := by rw [State.persistDue_eq, State.persistDue_eq, hpersist]
  have hnext : u.nextPersist = s.nextPersist := by
    rw [State.nextPersist, State.nextPersist, hdue, State.countdown, State.countdown, hpersist]
  have htake : u.takeUnit = s.takeUnit := by rw [State.takeUnit, State.takeUnit, hback]
  have hset := hI.writes_of_mem hconsume (ws := s.consumeWrites) fun w hw => by
    have hm := s.consumeWrites_written w hw
    simp only [Column.writes, List.mem_cons, List.not_mem_nil, or_false] at hm ⊢
    tauto
  simp only [consumeStep, howed, hdue, hnext, htake, hback]
  split_ifs
  · exact hI.raiseFault_alike (by decide) h _
  · have hp := hI.persists h
    exact commit_alike hset (hI.cfg hp) hp
  · exact commit_alike hset (hI.cfg h) h

/-- CONSUME takes the same branch in both states. -/
theorem Indistinct.consume_alike (hI : Indistinct R (columns .consume)) (h : R s u) :
    Alike R (exec .consume s) (exec .consume u) := by
  obtain ⟨-, -, hsleep, -, hhalted⟩ := hI.consume_reads (by decide) h
  have hready : u.ready = s.ready := by rw [State.ready, State.ready, hsleep, hhalted]
  simp only [exec]
  rw [execConsume, execConsume, hready]
  split_ifs
  · exact hI.consumeStep_alike (hI.accepts h _)
  · exact .next (hI.blocks h _)

/-- SLEEP takes the same branch in both states. -/
theorem Indistinct.sleep_alike (hI : Indistinct R (columns .sleep)) (h : R s u) :
    Alike R (exec .sleep s) (exec .sleep u) := by
  have hcol : Column.sleep ∈ columns .sleep := by decide
  obtain ⟨hsleep, hhalted⟩ := hI.sleep_reads hcol h
  have hready : u.ready = s.ready := by rw [State.ready, State.ready, hsleep, hhalted]
  simp only [exec]
  rw [execSleep, execSleep, hready]
  split_ifs
  · have ha := hI.accepts h .sleep
    exact commit_alike (hI.writes_of_mem hcol (ws := [(.sleeping, 1)]) (by simp [Column.writes]))
      (hI.cfg ha) ha
  · exact .next (hI.blocks h _)

/-- An operation other than RESET does alike in states that its columns of R38 cannot tell apart. -/
theorem Indistinct.exec_alike {i : Instr} (hI : Indistinct R (columns i)) (hn : i ≠ .reset)
    (h : R s u) : Alike R (exec i s) (exec i u) := by
  cases i with
  | idle => exact .next h
  | reset => exact absurd rfl hn
  | tclk => exact hI.tclk_alike h
  | consume => exact hI.consume_alike h
  | sleep => exact hI.sleep_alike h

/-- RESET does alike in states with the same trim to load (R161). -/
theorem exec_reset_alike (hset : ∀ r v s u, R s u → R (s.set r v) (u.set r v))
    (hdrive : ∀ as, R (s.driveNv as) (u.driveNv as)) (hcfg : plainConfig u.cfg = plainConfig s.cfg)
    (htrim : u.loadedTrim = s.loadedTrim) : Alike R (exec .reset s) (exec .reset u) := by
  obtain ⟨-, -, hbase, hen, -, -, hlegal⟩ := params_of_plainConfig hcfg
  have hreads : u.trimReads = s.trimReads := by rw [State.trimReads, State.trimReads, hen]
  have hwrites : u.resetWrites = s.resetWrites := by
    rw [State.resetWrites, State.resetWrites, hbase, htrim]
  simp only [exec, execReset, hlegal, htrim, hreads, hwrites]
  split_ifs
  · exact commit_alike (fun w _ => hset w.1 w.2) hcfg (hdrive _)
  · exact .refused _

/-- What is fetched is the first word and the rest (R88). -/
theorem State.words_of_fetch {w : OpWord} {rest : List OpWord} (h : s.fetch = some (w, rest)) :
    s.words = w :: rest := by
  unfold State.fetch at h
  split at h
  next => cases h
  next hw => cases h; exact hw

/-- A step does alike in states with the same words and the same trim held, if the operation does. -/
theorem step_alike (hcfg : plainConfig u.cfg = plainConfig s.cfg) (hwords : u.words = s.words)
    (htrim : u.trimOffset = s.trimOffset)
    (hexec : ∀ i rest, s.nextInstr = some i → Alike R (exec i (s.present rest)) (exec i (u.present rest))) :
    Alike R (step s) (step u) := by
  obtain ⟨-, -, -, -, -, hl, ht⟩ := params_of_plainConfig hcfg
  have hadmits : u.admits = s.admits := by
    funext i
    rw [State.admits, State.admits, ht, htrim]
  have hfetch : u.fetch = s.fetch := by rw [State.fetch, State.fetch, hwords]
  simp only [step, hl, hfetch, hadmits]
  split
  next => exact .refused _
  next =>
    split
    next => exact .fault _
    next w rest hf =>
      split
      next i hd =>
        split
        next =>
          exact hexec i rest (State.nextInstr_of_decode (State.words_of_fetch hf) hd)
        next => exact .refused _
      next => exact .refused _

end Operations

end Sys2Proof.Machine
end

section
/-! SUPPORT. Four changes of the state that operations do not see: an element outside their columns (R38),
the debug option and its line (R208), a byte of the non-volatile space (R72), and the outputs (R41). -/

namespace Sys2Proof.Machine

/-- Writes to two elements may be made in either order. -/
theorem State.set_set_comm {s : State} {r q : Reg} (h : q ≠ r) (v w : Int) :
    (s.set r v).set q w = (s.set q w).set r v := by
  cases r <;> cases q <;> first | rfl | exact absurd rfl h

/-- Fault entry does not see an element outside its column. -/
theorem State.faulted_set {s : State} {r : Reg}
    (hr : r ∉ Column.faultEntry.reads ++ Column.faultEntry.writes) (v : Int) (f : FaultCause) :
    (s.set r v).faulted f = (s.faulted f).set r v := by
  obtain ⟨hcause, hhalted, hline⟩ : r ≠ .faultCause ∧ r ≠ .halted ∧ r ≠ .dbgOut := by
    simpa [Column.reads, Column.writes] using hr
  cases r
  case faultCause => exact absurd rfl hcause
  case halted => exact absurd rfl hhalted
  case dbgOut => exact absurd rfl hline
  all_goals rfl

/-- What the columns neither read nor write they cannot tell apart, and leave (R38). -/
theorem indistinct_set {cs : List Column} {r : Reg} (hr : ∀ c ∈ cs, r ∉ c.reads ++ c.writes) (v : Int) :
    Indistinct (fun s u => u = s.set r v) cs where
  cfg h := by rw [h, State.set_keeps_cfg]
  reads h c hc q hq := by
    have hne : q ≠ r := fun e => hr c hc (e ▸ List.mem_append_left _ hq)
    rw [h, State.get_set_of_ne hne]
  writes h c hc q hq w := by
    have hne : q ≠ r := fun e => hr c hc (e ▸ List.mem_append_right _ hq)
    rw [h, State.set_set_comm hne]
  faults h hc f := by rw [h, State.faulted_set (hr _ hc)]
  ticks h := by subst h; cases r <;> rfl
  wakes h := by subst h; cases r <;> rfl
  persists h := by subst h; cases r <;> rfl
  blocks h i := by subst h; cases r <;> rfl
  accepts h i := by subst h; cases r <;> rfl

/-- States that look alike through `g` do so after any `f` that only adds to what `g` leaves out. -/
theorem congr_view {g f : State → State} (hf : ∀ s, g (f s) = g (f (g s))) {s u : State}
    (h : g s = g u) : g (f s) = g (f u) := by
  rw [hf s, h, ← hf u]

/-- No column reads the debug line (R38). -/
theorem Column.dbgOut_not_mem_reads (c : Column) : .dbgOut ∉ c.reads := by
  cases c <;> decide

/-- Elements but the debug line are seen with the option left out. -/
theorem State.get_undebugged {s : State} {r : Reg} (h : r ≠ .dbgOut) : s.undebugged.get r = s.get r := by
  cases r <;> first | rfl | exact absurd rfl h

/-- Writes to elements and the option left out. -/
theorem State.set_undebugged (r : Reg) (v : Int) (s : State) :
    (s.set r v).undebugged = (s.undebugged.set r v).undebugged := by
  cases r <;> rfl

/-- No column can tell the debug option or its line (R208). -/
theorem indistinct_undebugged (cs : List Column) :
    Indistinct (fun s u => s.undebugged = u.undebugged) cs where
  cfg h := (congrArg State.cfg h).symm
  reads {s u} h c _ r hr := by
    have hne : r ≠ .dbgOut := fun e => c.dbgOut_not_mem_reads (e ▸ hr)
    rw [← State.get_undebugged hne, ← h, State.get_undebugged hne]
  writes h _ _ r _ v := congr_view (State.set_undebugged r v) h
  faults h _ f := congr_view (f := fun s => s.faulted f) (fun _ => rfl) h
  ticks h := congr_view (f := State.emitTick) (fun _ => rfl) h
  wakes h := congr_view (f := State.emitWake) (fun _ => rfl) h
  persists h := congr_view (f := State.emitPersistReq) (fun _ => rfl) h
  blocks h i := congr_view (f := fun s => s.block i) (fun _ => rfl) h
  accepts h i := congr_view (f := fun s => s.accept i) (fun _ => rfl) h

/-- Every operation does alike whatever the debug option and its line are (R208). -/
theorem exec_undebugged_alike (i : Instr) {s u : State} (h : s.undebugged = u.undebugged) :
    Alike (fun s u => s.undebugged = u.undebugged) (exec i s) (exec i u) := by
  have hI := indistinct_undebugged (columns i)
  by_cases hn : i = .reset
  · subst hn
    exact exec_reset_alike (fun r v _ _ => congr_view (State.set_undebugged r v))
      (fun as => congr_view (f := fun s => s.driveNv as) (fun _ => rfl) h) (hI.cfg h)
      (congrArg State.loadedTrim h).symm
  · exact hI.exec_alike hn h

/-- A byte stored by the environment (R64, R72). -/
def State.storeNv (a : Nat) (v : Byte) (s : State) : State := { s with nv := Memory.write s.nv a v }

/-- A stored byte is no element, so setting an element commutes with it. -/
theorem State.storeNv_set (a : Nat) (v : Byte) (s : State) (r : Reg) (w : Int) :
    (s.storeNv a v).set r w = (s.set r w).storeNv a v := by
  cases r <;> rfl

theorem State.storeNv_get (a : Nat) (v : Byte) (s : State) (r : Reg) :
    (s.storeNv a v).get r = s.get r := by
  cases r <;> rfl

/-- No column reads the non-volatile space (R63). -/
theorem indistinct_storeNv (a : Nat) (v : Byte) (cs : List Column) :
    Indistinct (fun s u => u = s.storeNv a v) cs where
  cfg h := by rw [h]; rfl
  reads h _ _ r _ := by rw [h, State.storeNv_get]
  writes h _ _ r _ w := by rw [h, State.storeNv_set]
  faults h _ f := by rw [h]; rfl
  ticks h := by rw [h]; rfl
  wakes h := by rw [h]; rfl
  persists h := by rw [h]; rfl
  blocks h i := by rw [h]; rfl
  accepts h i := by rw [h]; rfl

/-- A byte outside the trim slot, or any byte without trim, is not in the trim that RESET loads (R61, R72). -/
theorem State.storeNv_loadedTrim {a : Nat} {s : State} (h : (a ≠ 4 ∧ a ≠ 5) ∨ s.cfg.trimEn = false)
    (v : Byte) : (s.storeNv a v).loadedTrim = s.loadedTrim := by
  have hcfg : (s.storeNv a v).cfg = s.cfg := rfl
  rw [State.loadedTrim_eq, State.loadedTrim_eq, hcfg]
  rcases h with ⟨h4, h5⟩ | he
  · simp only [State.storeNv, memRead_two, Memory.read_write_other v h4.symm,
      Memory.read_write_other v h5.symm]
  · simp [he]

/-- Operations do alike when a byte is stored that the operation does not read (R72). -/
theorem exec_storeNv_alike {a : Nat} {i : Instr} {s : State} (v : Byte)
    (h : ((a ≠ 4 ∧ a ≠ 5) ∨ s.cfg.trimEn = false) ∨ i ≠ .reset) :
    Alike (fun s u => u = s.storeNv a v) (exec i s) (exec i (s.storeNv a v)) := by
  by_cases hn : i = .reset
  · subst hn
    exact exec_reset_alike (fun r w s u h => by rw [h, State.storeNv_set]) (fun _ => rfl) rfl
      (State.storeNv_loadedTrim (h.resolve_right (not_not_intro rfl)) v)
  · exact (indistinct_storeNv a v _).exec_alike hn rfl

/-- Setting an element and leaving the outputs out. -/
theorem State.set_silent (r : Reg) (v : Int) (s : State) :
    (s.set r v).silent = (s.silent.set r v).silent := by
  cases r <;> rfl

theorem State.get_silent (s : State) (r : Reg) : s.silent.get r = s.get r := by
  cases r <;> rfl

/-- No column can tell the outputs of the step before (R41). -/
theorem indistinct_silent (cs : List Column) : Indistinct (fun s u => s.silent = u.silent) cs where
  cfg h := (congrArg (fun s => plainConfig (State.cfg s)) h).symm
  reads h _ _ r _ := by rw [← State.get_silent, ← h, State.get_silent]
  writes h _ _ r _ v := congr_view (State.set_silent r v) h
  faults h _ f := congr_view (g := State.silent) (f := fun s => s.faulted f) (fun _ => rfl) h
  ticks h := congr_view (g := State.silent) (f := State.emitTick) (fun _ => rfl) h
  wakes h := congr_view (g := State.silent) (f := State.emitWake) (fun _ => rfl) h
  persists h := congr_view (g := State.silent) (f := State.emitPersistReq) (fun _ => rfl) h
  blocks h i := congr_view (g := State.silent) (f := fun s => s.block i) (fun _ => rfl) h
  accepts h i := congr_view (g := State.silent) (f := fun s => s.accept i) (fun _ => rfl) h

/-- The outputs left out twice. -/
theorem State.silent_silent (s : State) : s.silent.silent = s.silent := rfl

/-- An operation other than RESET does alike whatever the outputs before were (R41). -/
theorem exec_silent_alike {i : Instr} (hn : i ≠ .reset) {s u : State} (h : s.silent = u.silent) :
    Alike (fun s u => s.silent = u.silent) (exec i s) (exec i u) :=
  (indistinct_silent (columns i)).exec_alike hn h

/-- TCLKs do alike whatever the outputs before were, by induction on their number. -/
theorem clocks_silent_alike (n : Nat) {s u : State} (h : s.silent = u.silent) :
    Alike (fun s u => s.silent = u.silent) (clocks n s) (clocks n u) := by
  induction n generalizing s u with
  | zero => exact .next h
  | succ n ih =>
    exact (exec_silent_alike (by decide) h).andThen fun _ _ => ih

/-- The words of `n` TCLKs do what `n` TCLKs do, up to the last outputs, by induction on `n` (R87). -/
theorem presentAll_tclk (n : Nat) {s : State} (hs : s.Presentable) :
    mapNext State.silent (presentAll (List.replicate n (encodeWord .tclk)) s) =
      mapNext State.silent (clocks n s) := by
  induction n generalizing s with
  | zero => rfl
  | succ n ih =>
    rw [← (clocks_silent_alike (n + 1) s.silent_silent).mapNext_eq,
      List.replicate_succ, presentAll, clocks, hs.step_word (decode_encodeWord .tclk)]
    exact mapNext_andThen_congr fun t ht => ih (hs.silent.exec_next ht)

/-- One word does what its operation does, up to the outputs (R11, R41). -/
theorem presentAll_one {s : State} (hs : s.Presentable) {i : Instr} (hn : i ≠ .reset) :
    mapNext State.silent (presentAll (encode i) s) = mapNext State.silent (exec i s) := by
  rw [encode, presentAll, hs.step_word (decode_encodeWord i),
    ← (exec_silent_alike hn s.silent_silent).mapNext_eq]
  cases exec i s.silent <;> rfl

/-- The words of a CONSUME and a SLEEP do what the operations do, up to the last outputs. -/
theorem presentAll_consume_sleep {s : State} (hs : s.Presentable) :
    mapNext State.silent (presentAll (encode .consume ++ encode .sleep) s) =
      mapNext State.silent (andThen (exec .consume s) (exec .sleep)) := by
  have hboth : Alike (fun s u => s.silent = u.silent) (andThen (exec .consume s.silent) (exec .sleep))
      (andThen (exec .consume s) (exec .sleep)) :=
    (exec_silent_alike (by decide) s.silent_silent).andThen fun _ _ => exec_silent_alike (by decide)
  rw [← hboth.mapNext_eq]
  show mapNext State.silent (andThen (step { s with words := [encodeWord .consume] })
    (presentAll (encode .sleep))) = _
  rw [hs.step_word (decode_encodeWord .consume)]
  exact mapNext_andThen_congr fun t ht => presentAll_one (hs.silent.exec_next ht) (by decide)

/-- The words of a CTICK do what the CTICK does: its SLEEP is among them exactly if it is performed (R87). -/
theorem presentAll_ctick {s : State} (hs : s.Presentable) :
    mapNext State.silent (presentAll (itemWords s .ctick) s) = mapNext State.silent (ctick s) := by
  have hone := presentAll_one hs (i := .consume) (by decide)
  have hboth := presentAll_consume_sleep hs
  unfold ctick itemWords
  match he : exec .consume s with
  | .next t =>
    rw [he] at hone hboth
    simp only [andThen_of_next] at hboth ⊢
    split
    · exact hboth
    · exact hone
  | .fault _ => rw [he] at hone; exact hone
  | .refused _ => rw [he] at hone; exact hone

end Sys2Proof.Machine
end

section
/-! The statements about what the operations do not see: R38's read columns, R208, R72 and R87. -/

open Sys2Proof Sys2Proof.Machine

namespace Sys2Proof.Proofs

/-- Settles O25: neither the step nor any operation reads the option or its line. -/
theorem debugOptionOnlyDrivesTheLine : Obligations.DebugOptionOnlyDrivesTheLine := by
  unfold Obligations.DebugOptionOnlyDrivesTheLine
  intro s option line
  exact Alike.mapNext_eq (step_alike rfl rfl rfl fun i rest _ => exec_undebugged_alike i rfl)

/-- Settles O27: the columns of the operation neither read nor write the element. -/
theorem operationsReadOnlyTheirColumn : Obligations.OperationsReadOnlyTheirColumn := by
  unfold Obligations.OperationsReadOnlyTheirColumn
  intro i s r v hn hr
  have hcols : ∀ c ∈ columns i, r ∉ c.reads ++ c.writes := fun c hc hm =>
    hr (List.mem_flatMap.mpr ⟨c, hc, hm⟩)
  exact ((indistinct_set hcols v).exec_alike hn rfl).eq_mapNext

/-- Settles O30: only RESET reads the non-volatile space, and only the trim slot, and only with trim. -/
theorem nonVolatileStoresAreInvisible : Obligations.NonVolatileStoresAreInvisible := by
  unfold Obligations.NonVolatileStoresAreInvisible
  intro s a v h
  refine Alike.eq_mapNext (g := State.storeNv a v) (step_alike rfl rfl rfl fun i rest hi => ?_)
  refine exec_storeNv_alike (s := s.present rest) v ?_
  rcases h with h | h | h
  · exact .inl (.inl h)
  · exact .inl (.inr h)
  · exact .inr fun e => h (e ▸ hi)

/-- Settles O48: the words of TICK by induction on their number, those of CTICK by whether its SLEEP is
performed. -/
theorem pseudoOperationsAreTheirWords : Obligations.PseudoOperationsAreTheirWords := by
  unfold Obligations.PseudoOperationsAreTheirWords
  intro s hl ht hw
  have hs : s.Presentable := ⟨hl, ht, hw⟩
  exact ⟨presentAll_tclk s.clocksToMatch hs, presentAll_ctick hs⟩

end Sys2Proof.Proofs
end

section
/-! SUPPORT. The word on `op` and the operation it is (R80 to R82), the stops of a step (R7, R113, R250), and
what waits to be accepted (R131, R250). -/

namespace Sys2Proof.Machine

/-- A word decodes to an operation exactly when it is the operation's word (R82). -/
theorem decode_eq_ok_iff {w : OpWord} {i : Instr} : decode w = .ok i ↔ w = encodeWord i :=
  ⟨eq_encodeWord_of_decode, fun h => h ▸ decode_encodeWord i⟩

/-- A word carries the field of its operation's agent (R80, R81). -/
theorem agt_encodeWord (i : Instr) : OpWord.agt (encodeWord i) = i.agent.field := by
  cases i <;> rfl

/-- A table word that decodes is the word of the operation (R80, log 11). -/
theorem decodeTableWord_some {nbits w : Nat} {i : Instr} (h : decodeTableWord nbits w = some i) :
    decode (BitVec.ofNat 4 (w % 2 ^ nbits)) = .ok i := by
  simp only [decodeTableWord] at h
  split at h
  next =>
    split at h
    next hd => cases h; exact hd
    next => cases h
  next => cases h

/-- RESET is admitted always, another operation under a legal trim held (R113, R161). -/
theorem State.admits_iff {s : State} {i : Instr} :
    s.admits i = true ↔ i = .reset ∨ s.cfg.trimLegal s.trimOffset = true := by
  simp [State.admits]

/-- An illegal configuration has no runs (R7). -/
theorem step_of_illegal {s : State} (h : s.cfg.legal = false) :
    step s = .refused .illegalConfiguration := by
  simp [step, h]

/-- The configurations that R7 (a) and (b) exclude are not legal. -/
theorem Config.not_legal {c : Config} (h : c.longCycles = 0 ∨ c.cycles < c.longCycles ∨
    2 ^ c.posW ≤ c.cycles ∨ 2 ^ c.cmpW ≤ c.base + 1) : c.legal = false := by
  by_contra hl
  obtain ⟨⟨h1, h2, h3⟩, h4, -⟩ := Config.legal_iff.mp (by simpa using hl)
  have hpos := maxOf_succ c.posW
  have hcmp := maxOf_succ c.cmpW
  omega

/-- A step on the word of RESET refuses the trim that RESET would load, and a step on another word the trim
that is held (R113, log 8). -/
theorem step_trimOutOfRange_iff {s : State} {i : Instr} {rest : List OpWord} (hl : s.cfg.legal = true)
    (hw : s.words = encodeWord i :: rest) : step s = .refused .trimOutOfRange ↔
      ¬ s.cfg.trimLegal (if i = .reset then s.loadedTrim else s.trimOffset) = true := by
  by_cases hn : i = .reset
  · subst hn
    rw [step_eq_exec hl hw (decode_encodeWord _) s.admits_reset, exec_reset_trimOutOfRange_iff, if_pos rfl]
    rfl
  · rw [if_neg hn]
    rcases step_of_decode_ok hl hw (decode_encodeWord i) with ⟨ha, he⟩ | ⟨ha, he⟩
    · have hlegal := (State.admits_iff.mp ha).resolve_left hn
      have hexec : step s ≠ .refused .trimOutOfRange := fun h => hn (exec_refused (he ▸ h)).1
      simp [hlegal, hexec]
    · have hnot : ¬ s.cfg.trimLegal s.trimOffset = true := fun h => by
        simp [State.admits_of_trimLegal h] at ha
      simp [hnot, he]

/-- A commit that stops does so for a register (R9). -/
theorem commit_fault {s : State} {ws : Writes} {f : Fault} (h : commit s ws = .fault f) :
    ∃ r, f = .registerRange r := by
  rcases commit_cases s ws with ⟨he, -⟩ | ⟨r, v, he, -⟩ <;> rw [he] at h <;> cases h
  exact ⟨r, rfl⟩

/-- An operation that stops does so for a register (R9): the end of the words is no operation's (R250). -/
theorem exec_fault {i : Instr} {s : State} {f : Fault} (h : exec i s = .fault f) :
    ∃ r, f = .registerRange r := by
  cases i with
  | idle => cases h
  | reset =>
    simp only [exec, execReset] at h
    split at h
    next => exact commit_fault h
    next => cases h
  | tclk =>
    rcases exec_tclk_cases s with ⟨-, he⟩ | ⟨-, -, he⟩ | ⟨-, -, -, he⟩ | ⟨-, -, -, he⟩ <;> rw [he] at h
    case inl => cases h
    case inr.inl => exact commit_fault h
    case inr.inr.inl => exact commit_fault h
    case inr.inr.inr => exact commit_fault h
  | consume =>
    rcases exec_consume_cases s with ⟨-, he⟩ | ⟨-, -, he⟩ | ⟨-, -, he⟩ <;> rw [he] at h
    case inl => cases h
    case inr.inl => exact commit_fault h
    case inr.inr => exact commit_fault h
  | sleep =>
    rcases exec_sleep_cases s with ⟨-, he⟩ | ⟨-, he⟩ <;> rw [he] at h
    case inl => cases h
    case inr => exact commit_fault h

/-- While a word is left a step does not end the run (R250). -/
theorem step_not_endOfWords {s : State} {w : OpWord} {rest : List OpWord} (hl : s.cfg.legal = true)
    (hw : s.words = w :: rest) : step s ≠ .fault .endOfWords := by
  intro h
  match hd : decode w with
  | .error (.reserved v) =>
    rw [step_of_decode_error hl hw hd] at h
    cases h
  | .ok i =>
    rcases step_of_decode_ok hl hw hd with ⟨-, he⟩ | ⟨-, he⟩ <;> rw [he] at h
    · obtain ⟨r, hr⟩ := exec_fault h
      cases hr
    · cases h

/-- Before its word is performed a step has blocked nothing (R42). -/
theorem State.present_not_blocked (s : State) (rest : List OpWord) :
    (s.present rest).out.blocked = false := rfl

/-- What an answer does to the operations that wait, and whether its own was blocked: a MAIN operation that
is not accepted waits, one that is accepted waits no more, and nothing else moves the list (R42, R131). -/
theorem Answers.mainWaiting {i : Instr} {s t : State} (h : Answers i s t) :
    (i.agent = .main ∧ s.ready = false ∧ t.mainWaiting = (s.block i).mainWaiting ∧
        t.out.blocked = true) ∨
      (i.agent = .main ∧ s.ready = true ∧ t.mainWaiting = (s.accept i).mainWaiting ∧
        t.out.blocked = s.out.blocked) ∨
      (i.agent ≠ .main ∧ t.mainWaiting = s.mainWaiting ∧ t.out.blocked = s.out.blocked) := by
  cases h with
  | blocked ha hr => exact .inl ⟨ha, hr, rfl, rfl⟩
  | underflowed hr => exact .inr (.inl ⟨rfl, hr, rfl, rfl⟩)
  | consumed hr => exact .inr (.inl ⟨rfl, hr, rfl, rfl⟩)
  | slept hr => exact .inr (.inl ⟨rfl, hr, rfl, rfl⟩)
  | idle => exact .inr (.inr ⟨by decide, rfl, rfl⟩)
  | frozen => exact .inr (.inr ⟨by decide, rfl, rfl⟩)
  | counted => exact .inr (.inr ⟨by decide, rfl, rfl⟩)
  | overflowed => exact .inr (.inr ⟨by decide, rfl, rfl⟩)
  | matched => exact .inr (.inr ⟨by decide, rfl, rfl⟩)
  | restarted => exact .inr (.inr ⟨by decide, rfl, rfl⟩)

/-- After a step that performs `i`, an operation waits if it is `i` and was blocked, or waited and was not
accepted. -/
theorem step_mainWaiting {s t : State} (h : step s = .next t) (j : Instr) :
    j ∈ t.mainWaiting ↔ (s.nextInstr = some j ∧ t.out.blocked = true) ∨
      (j ∈ s.mainWaiting ∧ ¬ (s.nextInstr = some j ∧ j.agent = .main ∧ s.ready = true)) := by
  obtain ⟨i, rest, hi, ha⟩ := step_next_answers h
  rw [hi, Option.some.injEq]
  rcases ha.mainWaiting with ⟨-, hr, hw, hb⟩ | ⟨hm, hr, hw, hb⟩ | ⟨hm, hw, hb⟩
  · rw [State.present_ready] at hr
    rw [hw, State.mem_block_mainWaiting, State.present_mainWaiting]
    simp only [hb, hr, Bool.false_eq_true, and_false, not_false_eq_true, and_true]
    tauto
  · rw [State.present_ready] at hr
    rw [hw, State.mem_accept_mainWaiting, State.present_mainWaiting]
    rw [State.present_not_blocked] at hb
    simp only [hb, hr, Bool.false_eq_true, and_false, false_or, and_true]
    constructor
    · exact fun ⟨hj, hne⟩ => ⟨hj, fun e => hne e.1.symm⟩
    · exact fun ⟨hj, hne⟩ => ⟨hj, fun e => hne ⟨e.symm, e ▸ hm⟩⟩
  · rw [hw, State.present_mainWaiting]
    rw [State.present_not_blocked] at hb
    simp only [hb, Bool.false_eq_true, and_false, false_or]
    exact ⟨fun hj => ⟨hj, fun ⟨e, hm', _⟩ => hm (e ▸ hm')⟩, And.left⟩

end Sys2Proof.Machine
end

section
/-! The statements of 30_encoding.md about words, and of 70_reset_and_hazards.md about the end of a run. -/

open Sys2Proof Sys2Proof.Machine

namespace Sys2Proof.Proofs

/-- Settles O1: the word of each operation, and its agent's field. -/
theorem encodedOperationDecodes : Obligations.EncodedOperationDecodes := by
  unfold Obligations.EncodedOperationDecodes
  exact fun i _ => ⟨rfl, decode_encodeWord i, agt_encodeWord i⟩

/-- Settles O2: the decoder reads each operation's word and no other as that operation. -/
theorem decodedWordIsTheEncoding : Obligations.DecodedWordIsTheEncoding := by
  unfold Obligations.DecodedWordIsTheEncoding
  exact fun _ _ => decode_eq_ok_iff

/-- Settles O3: R82's five words are the words of the operations; the table words are evaluated. -/
theorem opcodeWordsDecodeAsWritten : Obligations.OpcodeWordsDecodeAsWritten := by
  unfold Obligations.OpcodeWordsDecodeAsWritten
  exact ⟨decode_encodeWord .idle, decode_encodeWord .reset, decode_encodeWord .tclk,
    decode_encodeWord .consume, decode_encodeWord .sleep, by decide, by decide, by decide⟩

/-- Settles O4: the operation is admitted, so the step performs it. -/
theorem stepRunsTheDecodedWord : Obligations.StepRunsTheDecodedWord := by
  unfold Obligations.StepRunsTheDecodedWord
  exact fun _ _ _ _ hl ha hw hd => step_eq_exec hl hw hd (State.admits_iff.mpr ha)

/-- Settles O5: the table's word decodes on `op` to the operation that the table names. -/
theorem tableWordRunsNext : Obligations.TableWordRunsNext := by
  unfold Obligations.TableWordRunsNext
  intro s nbits w i hl ha hd
  exact step_eq_exec (s := s.withFetchWord nbits w) hl rfl (decodeTableWord_some hd)
    (State.admits_iff.mpr ha)

/-- Settles O7: legality excludes the four cases of R7, and a legal trim is one in R113's range. -/
theorem illegalLaunchIsRefused : Obligations.IllegalLaunchIsRefused := by
  unfold Obligations.IllegalLaunchIsRefused
  intro s
  refine ⟨fun h => step_of_illegal (Config.not_legal h), fun i rest hl he hw => ?_⟩
  rw [step_trimOutOfRange_iff hl hw, trimLegal_iff_range he]
  split <;> rfl

/-- Settles O8: with no word left there is nothing to fetch, and with one left no stop is the run's end. -/
theorem runEndsWithItsWords : Obligations.RunEndsWithItsWords := by
  unfold Obligations.RunEndsWithItsWords
  intro s hl
  match hw : s.words with
  | [] => simp [step, hl, State.fetch, hw]
  | w :: rest => simp [step_not_endOfWords hl hw]

/-- Settles O49: under the invariant a cause is latched exactly while the machine is halted. -/
theorem runEndsWellOrFails : Obligations.RunEndsWellOrFails := by
  unfold Obligations.RunEndsWellOrFails
  intro s hi hw
  have hcause : decide (s.faultCause = 0#2) = !s.halted := by
    cases hh : s.halted with
    | true => simpa using hi.haltedCause.mp hh
    | false =>
      by_contra hne
      simp [hi.haltedCause.mpr (by simpa using hne)] at hh
  simp only [State.goodEnd, State.failedEnd, hw, List.isEmpty_nil, Bool.true_and, hcause, Bool.not_or,
    Bool.not_not]

/-- Settles O56: the list of waiting operations by `step_mainWaiting`; it is empty if it has no member. -/
theorem blockedOperationsWaitToBeAccepted : Obligations.BlockedOperationsWaitToBeAccepted := by
  unfold Obligations.BlockedOperationsWaitToBeAccepted
  refine ⟨fun s t i h => step_mainWaiting h i, fun s => ?_⟩
  simp only [State.goodEnd, Bool.and_eq_true, List.isEmpty_iff, decide_eq_true_eq, and_assoc,
    List.eq_nil_iff_forall_not_mem (l := s.mainWaiting)]

end Sys2Proof.Proofs
end
